-- ==== Sys2Proof/Word.lean ====
section
/-! DEFINITION. The widths of spec/00_scope.md R8 and the words of the SD/MMC command framer made of them (R9): every
value is unsigned, and nothing in the block is wider than a host request. -/

namespace Sys2Proof

namespace Config

/-- `TMR_WIDTH` (R8, R24). -/
@[simp] abbrev tmrWidth : Nat := 16

/-- `IDX_WIDTH` (R8, R26). -/
@[simp] abbrev idxWidth : Nat := 6

/-- `ARG_WIDTH` (R8, R26). -/
@[simp] abbrev argWidth : Nat := 32

/-- `SECTOR_WIDTH` (R8, R170). -/
@[simp] abbrev sectorWidth : Nat := 32

/-- The bits of a command frame: start, index, argument, CRC and end bit (R71). -/
@[simp] abbrev frameWidth : Nat := 2 + idxWidth + argWidth + 8

/-- The bytes of a command frame (R71). -/
@[simp] abbrev frameLen : Nat := frameWidth / 8

/-- The bits of a host request: `op`, `pdrv`, `sector`, `count`, `code` (R90). -/
@[simp] abbrev requestWidth : Nat := 3 + 8 + sectorWidth + 8 + 8

end Config

/-- `u8`: one bus exchange carries one byte each way (R11, R100). -/
abbrev Byte := BitVec 8

/-- `u32`: a numeric query result (R83). -/
abbrev Word32 := BitVec 32

/-- A timeout counter (R24). -/
abbrev Counter := BitVec Config.tmrWidth

/-- A command index, 0 to 63 (R26). -/
abbrev Index := BitVec Config.idxWidth

/-- A command argument (R26), the card address of a sector among them (R56). -/
abbrev Argument := BitVec Config.argWidth

/-- A sector number of a host request (R90, R170). -/
abbrev Sector := BitVec Config.sectorWidth

/-- A command frame, byte 0 the most significant byte (R71). -/
abbrev FrameWord := BitVec Config.frameWidth

/-- A host request `op ++ pdrv ++ sector ++ count ++ code` (R90). The record's sixth field, the
buffer handle, has no binary form and stands beside the word (`Event.request`). -/
abbrev RequestWord := BitVec Config.requestWidth

end Sys2Proof
end

