-- ==== Sys2Proof/Syntax.lean ====
section
/-! DEFINITION. The instructions of the block: one constructor per row of spec/opcode_table.json. R6 says what an
instruction is here: a host operation, the tick, or a wire command frame; the table also lists the tokens the block
sends and the byte patterns it recognises in what the card answers. -/

namespace Sys2Proof

inductive Instr where
  -- command frames (R71, R87; rules R115 to R130)
  | cmd0
  | cmd1
  | cmd8
  | cmd9
  | cmd10
  | cmd12
  | acmd13
  | cmd16
  /-- R123; `addr` is the argument (R56). -/
  | cmd17 (addr : Argument)
  /-- R124. -/
  | cmd18 (addr : Argument)
  /-- R125; the argument is `zext_32(count)`. -/
  | acmd23 (count : Argument)
  /-- R126. -/
  | cmd24 (addr : Argument)
  /-- R127. -/
  | cmd25 (addr : Argument)
  /-- R128; the argument is `ARG_HCS` or 0. -/
  | acmd41 (arg : Argument)
  | cmd55
  | cmd58
  -- tokens and byte patterns (R75, R78 to R82)
  /-- The start token `0xFE` received by `RECVBLOCK` (R140). -/
  | tokenRxStart
  /-- The start-block token `0xFE` sent by `SENDBLOCK` (R141). -/
  | tokenStartBlock
  /-- The multi-write token `0xFC` sent by `SENDBLOCK` (R141). -/
  | tokenMultiWrite
  /-- The stop-transmission token `0xFD` sent by `SENDBLOCK` (R141). -/
  | tokenStopTran
  /-- A valid response byte `0rrrrrrr` (R75, R113). -/
  | r1Valid (r : BitVec 7)
  /-- A data response `uuu00101` (R81, R141); bits 7:5 are ignored. -/
  | dataRespAccepted (ignored : BitVec 3)
  /-- The ready byte `0xFF` received by `WAITREADY` (R82, R107). -/
  | ready
  -- host requests (R90, R91)
  | status (pdrv : Byte)
  | initializeDrive (pdrv : Byte)
  | read (pdrv : Byte) (sector : Sector) (count : Byte)
  | write (pdrv : Byte) (sector : Sector) (count : Byte)
  | ioctlSync (pdrv : Byte)
  | ioctlGetSectorCount (pdrv : Byte)
  | ioctlGetBlockSize (pdrv : Byte)
  | ioctlGetType (pdrv : Byte)
  | ioctlGetCsd (pdrv : Byte)
  | ioctlGetCid (pdrv : Byte)
  | ioctlGetOcr (pdrv : Byte)
  | ioctlGetSdstat (pdrv : Byte)
  /-- A control code 8 to 255 (R91, R196). -/
  | ioctlUnrecognized (pdrv : Byte) (code : Byte)
  -- the event input (R205)
  | tick
deriving DecidableEq, Repr

/-- What stands on one of the block's ports when an instruction is taken up. The same byte means different things in
different places (`0xFE` is a start token received and a start-block token sent), so the place is part of the word. -/
inductive Signal where
  /-- The command port: the frame the sequencer is about to send and the descriptor's `APP` flag. The flag is beside
  the frame because the frame alone does not tell `ACMD41` from `CMD41` (R77). -/
  | frame (app : Bool) (w : FrameWord)
  /-- A token byte about to be sent (R80). -/
  | sentToken (b : Byte)
  /-- The card's answer to an exchange of the response poll (R113). -/
  | response (b : Byte)
  /-- The card's answer to an exchange of the token wait (R140). -/
  | startToken (b : Byte)
  /-- The card's answer to an exchange of the ready wait (R107). -/
  | readyByte (b : Byte)
  /-- The card's answer to the one data-response exchange (R141). -/
  | dataResponse (b : Byte)
  /-- The host's request port (R90); the buffer handle, which has no bits, stays on the port
  (`Machine.State.requestBuffer`). -/
  | request (w : RequestWord)
  /-- The tick event line (R90: one bit, 1 when active). -/
  | event (line : BitVec 1)
deriving DecidableEq, Repr

end Sys2Proof
end

