-- ==== Sys2Proof/Config.lean ====
section
/-! DEFINITION. The implementation parameters of spec/00_scope.md R8 that have a value, each under its own name (the widths
stand in Word.lean, beside the types they give), and the free values: what the spec leaves open is an opaque constant, so that no proof can see what it is. -/

namespace Sys2Proof

/-- One move of the environment or of the foreground sequencer (R7). A step of the machine is one such move; which
one comes next is not the block's to decide. -/
inductive Event where
  /-- The foreground sequencer performs its next primitive (R11). -/
  | foreground
  /-- The tick source invokes `TICK` (R205, R208). -/
  | tick
  /-- The signal sources drive the two inputs (R28). -/
  | lines (cdPresent wpActive : Bool)
  /-- The host presents a request and names its buffer by a handle (R29, R90: "abstract"). The model's choice (log entry
  28): a handle is a number, and each number names a buffer of its own. -/
  | request (buffer : Nat) (w : RequestWord)
  /-- The host writes a byte of one of its data buffers (R31, R52). -/
  | hostWrite (buffer : Nat) (offset : Nat) (b : Byte)
  /-- The reset of the block (R235). -/
  | reset
deriving DecidableEq, Repr, Inhabited

/-- `POLL_SUCCESS_RULE` (R159, D16): what counts as success of the negotiation poll. -/
inductive PollRule where
  | byResponse
  | byTimer
deriving DecidableEq, Repr, Inhabited

namespace Config

-- lengths (R8)
abbrev sectorSize : Nat := 512
abbrev regBlockLen : Nat := 16
abbrev sdstatLen : Nat := 64
abbrev ocrLen : Nat := 4
abbrev r7Len : Nat := 4
/-- Status bytes left over after `RECVBLOCK(16)` on the 64-byte status and its CRC (R188). -/
abbrev purgeLen : Nat := 48
/-- Filler or discarded CRC bytes of a data block (R78, R79). -/
abbrev crcLen : Nat := 2
/-- `COUNT_MAX` (R8, R175). -/
abbrev countMax : Nat := 128
/-- The offsets of a host buffer are below this (D2: "so at most 65535"). -/
abbrev bufferSize : Nat := 65536

-- waits (R8, R24, R239)
abbrev tReady : Counter := 500#tmrWidth
abbrev tToken : Counter := 100#tmrWidth
abbrev tInit : Counter := 1000#tmrWidth
abbrev nRespPoll : Byte := 10#8
abbrev nPowerupDummy : Nat := 10

-- bytes (R8, R73, R80, R81)
abbrev fill : Byte := 0xFF#8
abbrev crcCmd0 : Byte := 0x95#8
abbrev crcCmd8 : Byte := 0x87#8
abbrev crcFillCmd : Byte := 0x01#8
abbrev crcFillData : Byte := 0xFF#8
abbrev tokenRxStart : Byte := 0xFE#8
abbrev tokenStartBlock : Byte := 0xFE#8
abbrev tokenMultiWrite : Byte := 0xFC#8
abbrev tokenStopTran : Byte := 0xFD#8
abbrev dataRespMask : Byte := 0x1F#8
abbrev dataRespAccept : Byte := 0x05#8

-- command indices (R8, R87)
abbrev idxGoIdle : Index := 0#idxWidth
abbrev idxSendOpCond : Index := 1#idxWidth
abbrev idxSendIfCond : Index := 8#idxWidth
abbrev idxSendCsd : Index := 9#idxWidth
abbrev idxSendCid : Index := 10#idxWidth
abbrev idxStopTransmission : Index := 12#idxWidth
abbrev idxSdStatus : Index := 13#idxWidth
abbrev idxSetBlocklen : Index := 16#idxWidth
abbrev idxReadSingle : Index := 17#idxWidth
abbrev idxReadMultiple : Index := 18#idxWidth
abbrev idxSetWrBlockCount : Index := 23#idxWidth
abbrev idxWriteSingle : Index := 24#idxWidth
abbrev idxWriteMultiple : Index := 25#idxWidth
abbrev idxAppSendOpCond : Index := 41#idxWidth
abbrev idxAppCmd : Index := 55#idxWidth
abbrev idxReadOcr : Index := 58#idxWidth

-- arguments (R8, R72)
abbrev argIfCond : Argument := 0x000001AA#argWidth
abbrev argHcs : Argument := 0x40000000#argWidth
abbrev argBlocklen : Argument := 512#argWidth

-- Card Type values (R8, R23)
abbrev ctNone : Byte := 0x00#8
abbrev ctMmc : Byte := 0x01#8
abbrev ctSd1 : Byte := 0x02#8
abbrev ctSd2 : Byte := 0x04#8
abbrev ctBlock : Byte := 0x08#8

-- Drive Status flags (R8, R22); `STAT_NOINIT` alone is also what `STATUS` and `INITIALIZE` return for `pdrv != 0` (R150,
-- R198)
abbrev statNoInit : Byte := 0x01#8
abbrev statNoDisk : Byte := 0x02#8
abbrev statProtect : Byte := 0x04#8

-- result codes (R8, R92, R210): the number the result port carries
abbrev resOk : BitVec 3 := 0#3
abbrev resError : BitVec 3 := 1#3
abbrev resWrPrt : BitVec 3 := 2#3
abbrev resNotRdy : BitVec 3 := 3#3
abbrev resParErr : BitVec 3 := 4#3

-- request fields (R8, R90, R91)
abbrev opStatus : BitVec 3 := 0#3
abbrev opInitialize : BitVec 3 := 1#3
abbrev opRead : BitVec 3 := 2#3
abbrev opWrite : BitVec 3 := 3#3
abbrev opIoctl : BitVec 3 := 4#3
abbrev codeSync : Byte := 0#8
abbrev codeGetSectorCount : Byte := 1#8
abbrev codeGetBlockSize : Byte := 2#8
abbrev codeGetType : Byte := 3#8
abbrev codeGetCsd : Byte := 4#8
abbrev codeGetCid : Byte := 5#8
abbrev codeGetOcr : Byte := 6#8
abbrev codeGetSdstat : Byte := 7#8
/-- The least unrecognized code (R91). -/
abbrev codeFirstUnrecognized : Byte := 8#8

/-- OPEN `POLL_SUCCESS_RULE` (D16; log entry 3). -/
opaque pollSuccessRule : PollRule

/-- OPEN `STAT_RESET_NODISK` (D29, U4; log entry 1). -/
opaque statResetNoDisk : Bool

/-- OPEN `STAT_RESET_PROTECT` (D29, U4; log entry 1). -/
opaque statResetProtect : Bool

/-- The value of a formula that the spec leaves undefined (U2, U3; log entry 2). -/
opaque freeValue : Nat → Word32

/-- The card's answer to the exchange of this number when State's script of answers is used up (R7: "any byte"; log
entry 4). -/
opaque freeReply : Nat → Byte

/-- The next move when State's script of moves is used up (R60; log entry 5). -/
opaque freeEvent : Nat → Event

end Config

end Sys2Proof
end

