-- ==== Sys2Proof/WellFormed.lean ====
section
/-! DEFINITION. Which instructions the encodings admit: R72 fixes the arguments the block ever sends, R91 the codes of
the unrecognized row. -/

namespace Sys2Proof

/-- The checks on an instruction's operands. -/
def Instr.WellFormed : Instr → Bool
  | .cmd0 | .cmd1 | .cmd8 | .cmd9 | .cmd10 | .cmd12 | .acmd13 | .cmd16 => true
  | .cmd17 _ | .cmd18 _ | .cmd24 _ | .cmd25 _ => true
  -- R72: `zext_32(count)` of an 8-bit count
  | .acmd23 count => count.toNat < 256
  -- R72, R128: `ARG_HCS` on the SD-v2 path, 0 on the other
  | .acmd41 arg => arg == Config.argHcs || arg == 0#Config.argWidth
  | .cmd55 | .cmd58 => true
  | .tokenRxStart | .tokenStartBlock | .tokenMultiWrite | .tokenStopTran => true
  | .r1Valid _ | .dataRespAccepted _ | .ready => true
  | .status _ | .initializeDrive _ | .read _ _ _ | .write _ _ _ => true
  | .ioctlSync _ | .ioctlGetSectorCount _ | .ioctlGetBlockSize _ | .ioctlGetType _ => true
  | .ioctlGetCsd _ | .ioctlGetCid _ | .ioctlGetOcr _ | .ioctlGetSdstat _ => true
  -- R91: 8 to 255
  | .ioctlUnrecognized _ code => Config.codeFirstUnrecognized ≤ code
  | .tick => true

end Sys2Proof
end

