-- ==== Sys2Proof/Decode.lean ====
section
/-! DEFINITION. The encodings of spec/30_encoding.md, both ways: `decode` reads what stands on a port, total and
rejecting by name; `encode` writes an instruction's word. -/

namespace Sys2Proof

/-- The CRC byte of a frame, chosen by the index alone (R73). -/
def crcByte (idx : Index) : Byte :=
  if idx = Config.idxGoIdle then Config.crcCmd0
  else if idx = Config.idxSendIfCond then Config.crcCmd8
  else Config.crcFillCmd

/-- A command frame: `0b01 ++ index ++ arg ++ crc7 ++ 0b1` (R71); the last byte is given whole by `crcByte`. -/
def frameOf (idx : Index) (arg : Argument) : FrameWord :=
  0b01#2 ++ idx ++ arg ++ crcByte idx

/-- Byte `i` of a frame in sending order: byte 0 is the most significant (R71). -/
def frameByte (w : FrameWord) (i : Nat) : Byte := w.extractLsb' (8 * (Config.frameLen - 1 - i)) 8

/-- The fields of a frame (R71). -/
def frameStart (w : FrameWord) : BitVec 2 := w.extractLsb' (8 + Config.argWidth + Config.idxWidth) 2
def frameIndex (w : FrameWord) : Index := w.extractLsb' (8 + Config.argWidth) Config.idxWidth
def frameArg (w : FrameWord) : Argument := w.extractLsb' 8 Config.argWidth
def frameCrc (w : FrameWord) : Byte := w.extractLsb' 0 8

/-- A host request as one bit string (R90). -/
def requestOf (op : BitVec 3) (pdrv : Byte) (sector : Sector) (count code : Byte) : RequestWord :=
  op ++ pdrv ++ sector ++ count ++ code

/-- The fields of a host request (R90). -/
def requestOp (w : RequestWord) : BitVec 3 := w.extractLsb' (24 + Config.sectorWidth) 3
def requestPdrv (w : RequestWord) : Byte := w.extractLsb' (16 + Config.sectorWidth) 8
def requestSector (w : RequestWord) : Sector := w.extractLsb' 16 Config.sectorWidth
def requestCount (w : RequestWord) : Byte := w.extractLsb' 8 8
def requestCode (w : RequestWord) : Byte := w.extractLsb' 0 8

/-- Why a word is no instruction. -/
inductive Reject where
  /-- A frame whose byte 0 has bit 7 set or bit 6 clear (R71, R88). -/
  | frameStart
  /-- A frame with another last byte than its index calls for (R73, R88). -/
  | frameCrc
  /-- An index, with or without the app prefix, that is none of the sixteen commands (R87, R88). -/
  | commandIndex
  /-- An argument the block never sends with that command (R72, R88). -/
  | commandArgument
  /-- A sent token other than `0xFE`, `0xFC`, `0xFD` (R88). -/
  | tokenByte
  /-- A byte with bit 7 set in the response poll: no response yet (R75). -/
  | noResponse
  /-- A byte other than `0xFE` in the token wait (R78, R86). -/
  | noStartToken
  /-- A byte other than `0xFF` in the ready wait: busy (R82). -/
  | notReady
  /-- A data response whose low five bits are not `0b00101` (R81, R86). -/
  | dataRejected
  /-- A request with `op` 5, 6 or 7 (R86, R90). -/
  | notAnOperation
  /-- The tick line inactive (R90). -/
  | lineInactive
deriving DecidableEq, Repr

/-- `i` if the argument is the one R72 fixes for the command. -/
def withArg (want arg : Argument) (i : Instr) : Except Reject Instr :=
  if arg = want then .ok i else .error .commandArgument

/-- The sixteen commands by index and app flag (R87); `ACMD13`, `ACMD23` and `ACMD41` are the three app-commands. -/
def decodeCommand (app : Bool) (idx : Index) (arg : Argument) : Except Reject Instr :=
  if app then
    if idx = Config.idxSdStatus then withArg 0#Config.argWidth arg .acmd13
    else if idx = Config.idxSetWrBlockCount then
      if arg.toNat < 256 then .ok (.acmd23 arg) else .error .commandArgument
    else if idx = Config.idxAppSendOpCond then
      if arg = Config.argHcs ∨ arg = 0#Config.argWidth then .ok (.acmd41 arg) else .error .commandArgument
    else .error .commandIndex
  else
    if idx = Config.idxGoIdle then withArg 0#Config.argWidth arg .cmd0
    else if idx = Config.idxSendOpCond then withArg 0#Config.argWidth arg .cmd1
    else if idx = Config.idxSendIfCond then withArg Config.argIfCond arg .cmd8
    else if idx = Config.idxSendCsd then withArg 0#Config.argWidth arg .cmd9
    else if idx = Config.idxSendCid then withArg 0#Config.argWidth arg .cmd10
    else if idx = Config.idxStopTransmission then withArg 0#Config.argWidth arg .cmd12
    else if idx = Config.idxSetBlocklen then withArg Config.argBlocklen arg .cmd16
    else if idx = Config.idxReadSingle then .ok (.cmd17 arg)
    else if idx = Config.idxReadMultiple then .ok (.cmd18 arg)
    else if idx = Config.idxWriteSingle then .ok (.cmd24 arg)
    else if idx = Config.idxWriteMultiple then .ok (.cmd25 arg)
    else if idx = Config.idxAppCmd then withArg 0#Config.argWidth arg .cmd55
    else if idx = Config.idxReadOcr then withArg 0#Config.argWidth arg .cmd58
    else .error .commandIndex

/-- A command frame on the command port (R71 to R73, R87). -/
def decodeFrame (app : Bool) (w : FrameWord) : Except Reject Instr :=
  if frameStart w = 0b01#2 then
    if frameCrc w = crcByte (frameIndex w) then decodeCommand app (frameIndex w) (frameArg w)
    else .error .frameCrc
  else .error .frameStart

/-- A token byte sent (R80). -/
def decodeSentToken (b : Byte) : Except Reject Instr :=
  if b = Config.tokenStartBlock then .ok .tokenStartBlock
  else if b = Config.tokenMultiWrite then .ok .tokenMultiWrite
  else if b = Config.tokenStopTran then .ok .tokenStopTran
  else .error .tokenByte

/-- The response patterns (R75): bit 7 clear is a valid response. -/
def decodeResponse (b : Byte) : Except Reject Instr :=
  if b.extractLsb' 7 1 = 0#1 then .ok (.r1Valid (b.extractLsb' 0 7)) else .error .noResponse

/-- The start token (R78). -/
def decodeStartToken (b : Byte) : Except Reject Instr :=
  if b = Config.tokenRxStart then .ok .tokenRxStart else .error .noStartToken

/-- The ready byte (R82). -/
def decodeReadyByte (b : Byte) : Except Reject Instr :=
  if b = Config.fill then .ok .ready else .error .notReady

/-- The data response (R81): the bits of the mask decide, bits 7:5 are ignored. -/
def decodeDataResponse (b : Byte) : Except Reject Instr :=
  if b &&& Config.dataRespMask = Config.dataRespAccept then .ok (.dataRespAccepted (b.extractLsb' 5 3))
  else .error .dataRejected

/-- The control codes (R91). -/
def decodeIoctl (pdrv code : Byte) : Instr :=
  if code = Config.codeSync then .ioctlSync pdrv
  else if code = Config.codeGetSectorCount then .ioctlGetSectorCount pdrv
  else if code = Config.codeGetBlockSize then .ioctlGetBlockSize pdrv
  else if code = Config.codeGetType then .ioctlGetType pdrv
  else if code = Config.codeGetCsd then .ioctlGetCsd pdrv
  else if code = Config.codeGetCid then .ioctlGetCid pdrv
  else if code = Config.codeGetOcr then .ioctlGetOcr pdrv
  else if code = Config.codeGetSdstat then .ioctlGetSdstat pdrv
  else .ioctlUnrecognized pdrv code

/-- A host request (R90); the fields an operation does not use are ignored. -/
def decodeRequest (w : RequestWord) : Except Reject Instr :=
  if requestOp w = Config.opStatus then .ok (.status (requestPdrv w))
  else if requestOp w = Config.opInitialize then .ok (.initializeDrive (requestPdrv w))
  else if requestOp w = Config.opRead then
    .ok (.read (requestPdrv w) (requestSector w) (requestCount w))
  else if requestOp w = Config.opWrite then
    .ok (.write (requestPdrv w) (requestSector w) (requestCount w))
  else if requestOp w = Config.opIoctl then .ok (decodeIoctl (requestPdrv w) (requestCode w))
  else .error .notAnOperation

/-- The decoder: what stands on a port to an instruction or a named rejection. -/
def decode : Signal → Except Reject Instr
  | .frame app w => decodeFrame app w
  | .sentToken b => decodeSentToken b
  | .response b => decodeResponse b
  | .startToken b => decodeStartToken b
  | .readyByte b => decodeReadyByte b
  | .dataResponse b => decodeDataResponse b
  | .request w => decodeRequest w
  | .event line => if line = 1#1 then .ok .tick else .error .lineInactive

/-- The response byte `0rrrrrrr` (R75). -/
def responseByte (r : BitVec 7) : Byte := 0b0#1 ++ r

/-- The accepted data response `uuu00101` (R81). -/
def dataResponseByte (ignored : BitVec 3) : Byte := ignored ++ Config.dataRespAccept.extractLsb' 0 5

/-- A control request (R90, R91); `sector` and `count` are ignored and written as 0. -/
def ioctlRequest (pdrv code : Byte) : Signal := .request (requestOf Config.opIoctl pdrv 0#Config.sectorWidth 0#8 code)

/-- The encoder, from the same tables (R71 to R81, R90). -/
def encode : Instr → Signal
  | .cmd0 => .frame false (frameOf Config.idxGoIdle 0#Config.argWidth)
  | .cmd1 => .frame false (frameOf Config.idxSendOpCond 0#Config.argWidth)
  | .cmd8 => .frame false (frameOf Config.idxSendIfCond Config.argIfCond)
  | .cmd9 => .frame false (frameOf Config.idxSendCsd 0#Config.argWidth)
  | .cmd10 => .frame false (frameOf Config.idxSendCid 0#Config.argWidth)
  | .cmd12 => .frame false (frameOf Config.idxStopTransmission 0#Config.argWidth)
  | .acmd13 => .frame true (frameOf Config.idxSdStatus 0#Config.argWidth)
  | .cmd16 => .frame false (frameOf Config.idxSetBlocklen Config.argBlocklen)
  | .cmd17 addr => .frame false (frameOf Config.idxReadSingle addr)
  | .cmd18 addr => .frame false (frameOf Config.idxReadMultiple addr)
  | .acmd23 count => .frame true (frameOf Config.idxSetWrBlockCount count)
  | .cmd24 addr => .frame false (frameOf Config.idxWriteSingle addr)
  | .cmd25 addr => .frame false (frameOf Config.idxWriteMultiple addr)
  | .acmd41 arg => .frame true (frameOf Config.idxAppSendOpCond arg)
  | .cmd55 => .frame false (frameOf Config.idxAppCmd 0#Config.argWidth)
  | .cmd58 => .frame false (frameOf Config.idxReadOcr 0#Config.argWidth)
  | .tokenRxStart => .startToken Config.tokenRxStart
  | .tokenStartBlock => .sentToken Config.tokenStartBlock
  | .tokenMultiWrite => .sentToken Config.tokenMultiWrite
  | .tokenStopTran => .sentToken Config.tokenStopTran
  | .r1Valid r => .response (responseByte r)
  | .dataRespAccepted ignored => .dataResponse (dataResponseByte ignored)
  | .ready => .readyByte Config.fill
  | .status pdrv => .request (requestOf Config.opStatus pdrv 0#Config.sectorWidth 0#8 0#8)
  | .initializeDrive pdrv => .request (requestOf Config.opInitialize pdrv 0#Config.sectorWidth 0#8 0#8)
  | .read pdrv sector count => .request (requestOf Config.opRead pdrv sector count 0#8)
  | .write pdrv sector count => .request (requestOf Config.opWrite pdrv sector count 0#8)
  | .ioctlSync pdrv => ioctlRequest pdrv Config.codeSync
  | .ioctlGetSectorCount pdrv => ioctlRequest pdrv Config.codeGetSectorCount
  | .ioctlGetBlockSize pdrv => ioctlRequest pdrv Config.codeGetBlockSize
  | .ioctlGetType pdrv => ioctlRequest pdrv Config.codeGetType
  | .ioctlGetCsd pdrv => ioctlRequest pdrv Config.codeGetCsd
  | .ioctlGetCid pdrv => ioctlRequest pdrv Config.codeGetCid
  | .ioctlGetOcr pdrv => ioctlRequest pdrv Config.codeGetOcr
  | .ioctlGetSdstat pdrv => ioctlRequest pdrv Config.codeGetSdstat
  | .ioctlUnrecognized pdrv code => ioctlRequest pdrv code
  | .tick => .event 1#1

/-- Which port a frame of the opcode table stands on: the three app-command targets are told by their index, since
the table's word carries no app flag (R77, R87). -/
def isAppIndex (idx : Index) : Bool :=
  idx == Config.idxSdStatus || idx == Config.idxSetWrBlockCount || idx == Config.idxAppSendOpCond

/-- The port on which a word of the opcode table stands, by its length and, for the one-byte rows that share words,
by its value (log entry 17): `0xFE` is read as the received start token, 1 as the tick, a low half `0b00101` as the
data response, any other byte with bit 7 clear as a response. -/
def tableSignal (nbits w : Nat) : Option Signal :=
  if nbits = Config.frameWidth then
    let f : FrameWord := BitVec.ofNat Config.frameWidth w
    some (.frame (isAppIndex (frameIndex f)) f)
  else if Config.requestWidth ≤ nbits ∧ nbits ≤ 64 then some (.request (BitVec.ofNat Config.requestWidth w))
  else if nbits = 1 then some (.event (BitVec.ofNat 1 w))
  else if nbits = 8 then
    let b : Byte := BitVec.ofNat 8 w
    if b = Config.tokenRxStart then some (.startToken b)
    else if b = Config.tokenMultiWrite ∨ b = Config.tokenStopTran then some (.sentToken b)
    else if b = Config.fill then some (.readyByte b)
    else if b = 1#8 then some (.event 1#1)
    else if b &&& Config.dataRespMask = Config.dataRespAccept then some (.dataResponse b)
    else some (.response b)
  else none

/-- The instruction the decoder reads from a word of the opcode table. -/
def decodeTableWord (nbits w : Nat) : Option Instr :=
  match tableSignal nbits w with
  | none => none
  | some sig =>
    match decode sig with
    | .ok i => some i
    | .error _ => none

end Sys2Proof
end

