-- ==== Sys2Proof/Machine/State.lean ====
section
/-! DEFINITION. The state of the block (spec/10_state.md R20 to R33), as plain data, and its reset value. -/

namespace Sys2Proof.Machine

/-- `STAT`, the Drive Status register (R22). Its three flags are the only bits that can be 1: bits 7:3 "read as 0, never
written", so they are no field (log entry 19). -/
structure DriveStatus where
  notInitialized : Bool
  noCard : Bool
  writeProtected : Bool
deriving DecidableEq, Repr

/-- The chip-select latch (R25). -/
inductive ChipSelect where
  | deasserted
  | asserted
deriving DecidableEq, Repr

/-- The clock-speed latch (R25). -/
inductive ClockSpeed where
  | slow
  | fast
deriving DecidableEq, Repr

/-- The interface power latch (R25). -/
inductive Power where
  | off
  | on
deriving DecidableEq, Repr

/-- An event of the bus trace (R12). -/
inductive BusEvent where
  /-- `X tx>rx` -/
  | exchange (tx rx : Byte)
  /-- `CS+` or `CS-` -/
  | chipSelect (level : ChipSelect)
  /-- `CLK slow` or `CLK fast` -/
  | clock (speed : ClockSpeed)
  /-- `PWR on` or `PWR off` -/
  | power (level : Power)
deriving DecidableEq, Repr

/-- The result codes (R210); `ResultCode.number` gives the number of each. -/
inductive ResultCode where
  | ok
  | error
  | writeProtected
  | notReady
  | paramError
deriving DecidableEq, Repr

/-- What the result port carries (R92). -/
inductive HostResult where
  /-- `STATUS`, `INITIALIZE`: a status byte in the layout of R22. -/
  | status (b : Byte)
  /-- `READ`, `WRITE`, `IOCTL`: a code, and for the two numeric queries a `u32`, present only with `Ok`. -/
  | code (c : ResultCode) (value : Option Word32)
deriving DecidableEq, Repr

/-- `SEQ.op`: which host operation, with its operands, the buffer handle among them (R27). -/
inductive HostOp where
  | status (pdrv : Byte)
  | initializeDrive (pdrv : Byte)
  | read (pdrv : Byte) (sector : Sector) (count : Byte) (buffer : Nat)
  | write (pdrv : Byte) (sector : Sector) (count : Byte) (buffer : Nat)
  | ioctl (pdrv : Byte) (code : Byte) (buffer : Nat)
deriving DecidableEq, Repr

/-- `SEQ.phase`: the named states of `INITIALIZE` (R27, R160). -/
inductive Phase where
  | reset
  | interfaceCheck
  | v2Negotiate
  | v1MmcNegotiate
  | blockLengthSet
  | done (ty : Byte)
  | failed
deriving DecidableEq, Repr

/-- The tokens `SENDBLOCK` sends (R80, R141). -/
inductive TxToken where
  | startBlock
  | multiWrite
  | stopTran
deriving DecidableEq, Repr

/-- Which `SENDCMD` of the operation's pseudocode is running, where the phase or the operation alone does not say:
`poll` the repeat-command of a negotiation, `stop` the `CMD12` of a `READ`, `hint` the `ACMD23` of a `WRITE`, `main` any
other. -/
inductive Site where
  | main
  | poll
  | stop
  | hint
deriving DecidableEq, Repr

/-- Who called `SELECT`: `SENDCMD` (R112; `pfx` in its `CMD55` prefix, R111) or `IOCTL.SYNC` (R186). -/
inductive SelectCaller where
  | command (pfx : Bool)
  | sync
deriving DecidableEq, Repr

/-- Who called `WAITREADY`: `SELECT` (R106) or `SENDBLOCK` with its token (R141). -/
inductive ReadyCaller where
  | select (c : SelectCaller)
  | block (t : TxToken)
deriving DecidableEq, Repr

/-- Who called `DESELECT` (R108): `SENDCMD` before its frame, `SELECT` on failure, or the exit of an operation. -/
inductive DeselectCaller where
  | command (pfx : Bool)
  | selectFailed (c : SelectCaller)
  | exit
deriving DecidableEq, Repr

/-- The position inside the pseudocode: each constructor is one primitive of R11 about to be performed. -/
inductive Micro where
  /-- Nothing to perform. -/
  | rest
  -- INITIALIZE, entry (R150)
  | clockSlow
  | powerUp (left : Nat)
  -- SENDCMD (R110)
  | issue
  | deselectLatch (c : DeselectCaller)
  | deselectDummy (c : DeselectCaller)
  | selectLatch (c : SelectCaller)
  | selectDummy (c : SelectCaller)
  | frame (pfx : Bool) (i : Nat)
  | stuff
  | response (pfx : Bool)
  -- WAITREADY (R107)
  | readyArm (c : ReadyCaller)
  | readyPoll (c : ReadyCaller)
  | readyTest (c : ReadyCaller)
  -- RECVBLOCK (R140)
  | tokenArm
  | tokenPoll
  | tokenTest
  | payloadIn (i : Nat)
  | crcIn (left : Nat)
  -- SENDBLOCK (R141)
  | token (t : TxToken)
  | payloadOut (t : TxToken) (i : Nat)
  | crcOut (t : TxToken) (left : Nat)
  | dataResponse (t : TxToken)
  -- raw reads and discards (R76, R188, R193)
  | rawIn (i : Nat)
  | discard
  | purge (left : Nat)
  -- INITIALIZE, negotiation and exit (R151, R158, R159)
  | armNegotiation
  | pollTest
  | pollExit
  | commit
  | markReady
  | clockFast
  | powerOff
  | markFailed
  | reportStatus
deriving DecidableEq, Repr

/-- `SEQ`, the sequencer control state (R27): `busy`, `op`, `phase`, and the position inside the pseudocode with the
values that are local to it. -/
structure Seq where
  busy : Bool
  op : HostOp
  phase : Phase
  site : Site
  micro : Micro
  /-- `ty`, `INITIALIZE`'s private value until R158 commits it. -/
  ty : Byte
  /-- `addr` (R56). -/
  addr : Argument
  /-- `n`, the sectors still owed (R170, R171). -/
  owed : Nat
  /-- `i`, the sectors moved (R170, R172). -/
  moved : Nat
  /-- `res` of an `IOCTL` (R185). -/
  res : ResultCode
  /-- `value` of an `IOCTL` (R187, R188). -/
  value : Option Word32
deriving DecidableEq, Repr

/-- The whole state. The last six fields are the model's own: the record of the bus, and the environment's answers and
moves (log entries 2, 4, 5, 16). -/
structure State where
  stat : DriveStatus
  ct : Byte
  tmr1 : Counter
  tmr2 : Counter
  cs : ChipSelect
  clk : ClockSpeed
  pwr : Power
  app : Bool
  idx : Index
  arg : Argument
  resp : Byte
  scr : Vector Byte 16
  n : Byte
  seq : Seq
  cdPresent : Bool
  wpActive : Bool
  /-- The buffer handle on the request port: which of its buffers the host named last (R29, R90; log entry 28). -/
  requestBuffer : Nat
  /-- The result port: what was delivered last, if anything was (R29, R92). -/
  result : Option HostResult
  /-- The host's data buffers (R52), each under its handle: the byte at an offset of a buffer is the cell of
  `bufferCell` (log entry 28). Canonical: cells rising, no byte equal to what an unlisted cell reads as. -/
  buffers : List Host.Cell
  /-- The bus trace, newest event first (R12). -/
  trace : List BusEvent
  /-- The card's answers to the next exchanges; when they are used up, `Config.freeReply` answers. -/
  card : List Byte
  /-- How many exchanges were made. -/
  exchanges : Nat
  /-- The next moves; when they are used up, `Config.freeEvent` says. -/
  agenda : List Event
  /-- How many moves were drawn from `Config.freeEvent`. -/
  draws : Nat
  /-- How many undefined values were drawn from `Config.freeValue`. -/
  frees : Nat
deriving DecidableEq, Repr

/-- The reasons a step stops with a fault. -/
inductive Fault where
  /-- An access to a host buffer at an offset above 65535, which does not exist (D2). Raised by the payload
  exchanges and by the host's own write. Safe: no accepted request reaches such an offset (log entry 20). -/
  | bufferOffset
deriving DecidableEq, Repr

/-- The reasons a step is refused. -/
inductive Refusal where
  /-- An instruction without a meaning. Raised only by an arm of `exec`. Safe. -/
  | notModelled (mnemonic : String)
  /-- A host request while an operation runs (R61, R228, U6). Raised by the host operations. Safe. -/
  | requestWhileBusy
  /-- `READ` or `WRITE` past its gates with a count of 129 to 255 (R175, U1). Raised by those two. Safe. -/
  | countOutOfContract
  /-- A wire instruction at a place where the sequencer is not about to send or receive it (R27, R60). Raised by the
  command frames, tokens and patterns; never by `step`. Safe. -/
  | outOfSequence
  /-- A request with `op` 5, 6 or 7 (R86). Raised by `step`. Safe. -/
  | notAnOperation
  /-- A descriptor that is none of the sixteen commands (R88). Raised by `step`. Safe. -/
  | commandNotEmitted
  /-- The host writes any of its buffers while an operation runs (R52, R243, U6; log entry 12). Raised by `step`. Safe. -/
  | hostBufferWhileBusy
deriving DecidableEq, Repr

/-- How a meaning ends. -/
abbrev Result := Host.Outcome State Fault Refusal

/-- `SEQ` right after reset: Idle; the rest is unspecified (R33) and named in log entry 7. -/
def Seq.reset : Seq where
  busy := false
  op := .status 0#8
  phase := .reset
  site := .main
  micro := .rest
  ty := 0#8
  addr := 0#Config.argWidth
  owed := 0
  moved := 0
  res := .error
  value := none

/-- `STAT` right after reset (R33): `NotInitialized` set, the other two flags open parameters. -/
def DriveStatus.reset : DriveStatus where
  notInitialized := true
  noCard := Config.statResetNoDisk
  writeProtected := Config.statResetProtect

/-- The machine right after power-on reset (R33, R235), nothing on the bus yet, no scripted answers or moves. -/
def State.reset : State where
  stat := .reset
  ct := Config.ctNone
  tmr1 := 0#Config.tmrWidth
  tmr2 := 0#Config.tmrWidth
  cs := .deasserted
  clk := .slow
  pwr := .off
  app := false
  idx := 0#Config.idxWidth
  arg := 0#Config.argWidth
  resp := 0#8
  scr := Vector.replicate 16 0#8
  n := 0#8
  seq := .reset
  cdPresent := false
  wpActive := false
  requestBuffer := 0
  result := none
  buffers := []
  trace := []
  card := []
  exchanges := 0
  agenda := []
  draws := 0
  frees := 0

end Sys2Proof.Machine
end

