-- ==== Sys2Proof/Machine/Flags.lean ====
section
/-! DEFINITION. The flag computations: the Drive Status flags (R22, R205), the Card Type flags (R23), and the tests the
block makes on a response byte (R75, R131). -/

namespace Sys2Proof.Machine

/-- The status byte the host sees (R22): bit 0 `NotInitialized`, bit 1 `NoCard`, bit 2 `WriteProtected`, bits 7:3 zero. -/
def DriveStatus.toByte (d : DriveStatus) : Byte :=
  (if d.notInitialized then Config.statNoInit else 0#8) ||| (if d.noCard then Config.statNoDisk else 0#8)
    ||| (if d.writeProtected then Config.statProtect else 0#8)

/-- The number of a result code, 3 bits (R8, R210). -/
def ResultCode.number : ResultCode → BitVec 3
  | .ok => Config.resOk
  | .error => Config.resError
  | .writeProtected => Config.resWrPrt
  | .notReady => Config.resNotRdy
  | .paramError => Config.resParErr

/-- The result code that the host reads on the result port (R92), if the last result has one. -/
def HostResult.codeNumber : HostResult → Option (BitVec 3)
  | .status _ => none
  | .code c _ => some c.number

/-- The tick's rewrite of `STAT` from the two inputs (R205, R207): `WriteProtected` and `NoCard` follow them, and
`NotInitialized` is set while the card is absent and otherwise left as it was. -/
def DriveStatus.sampled (d : DriveStatus) (cdPresent wpActive : Bool) : DriveStatus where
  notInitialized := d.notInitialized || !cdPresent
  noCard := !cdPresent
  writeProtected := wpActive

/-- `STAT.NotInitialized <- b`: the foreground's update of the one bit it writes (R62, R158). -/
def DriveStatus.withNotInitialized (d : DriveStatus) (b : Bool) : DriveStatus :=
  { d with notInitialized := b }

/-- `(CT & flags) != 0` (R23). -/
def hasAny (ct flags : Byte) : Bool := ct &&& flags != 0#8

/-- Block-Addressed (R23). -/
def isBlockAddressed (ct : Byte) : Bool := hasAny ct Config.ctBlock

/-- SD-v2 (R23). -/
def isSd2 (ct : Byte) : Bool := hasAny ct Config.ctSd2

/-- SD-v1 (R23). -/
def isSd1 (ct : Byte) : Bool := hasAny ct Config.ctSd1

/-- SD-family (R23, R125). -/
def isSdFamily (ct : Byte) : Bool := hasAny ct (Config.ctSd1 ||| Config.ctSd2)

/-- The five legal values of `CT` (R23). -/
def legalCardType (ct : Byte) : Bool :=
  ct == 0x00#8 || ct == 0x01#8 || ct == 0x02#8 || ct == 0x04#8 || ct == 0x0C#8

/-- `r[7] == 0`: a valid response (R75, R113). -/
def validResponse (r : Byte) : Bool := r.extractLsb' 7 1 == 0#1

/-- `r <= 1`: accepted, idle or ready (R75, R111). -/
def passesPrefix (r : Byte) : Bool := decide (r ≤ 1#8)

/-- The type `CMD58`'s OCR gives an SD-v2 card: Block-Addressed when bit 6 of its first byte is set (R85, R154). -/
def sd2Type (ocr0 : Byte) : Byte :=
  if ocr0 &&& 0x40#8 != 0#8 then Config.ctSd2 ||| Config.ctBlock else Config.ctSd2

/-- The type the `ACMD41` probe gives provisionally (R155). -/
def probeType (r : Byte) : Byte := if passesPrefix r then Config.ctSd1 else Config.ctMmc

end Sys2Proof.Machine
end

