-- ==== Sys2Proof/Machine/Operands.lean ====
section
/-! DEFINITION. The operands the block computes: the card address of a sector (R56), the fields of the register blocks
(R83 to R85), and the numbers the queries derive from them (R187 to R190). -/

namespace Sys2Proof.Machine

/-- Address translation (R56): the sector number on a Block-Addressed card, else `sector * 512 mod 2^32`. -/
def cardAddress (ct : Byte) (sector : Sector) : Argument :=
  if isBlockAddressed ct then sector.setWidth Config.argWidth
  else sector.setWidth Config.argWidth * BitVec.ofNat Config.argWidth Config.sectorSize

/-- The argument of `ACMD23` (R72): `zext_32(count)`. -/
def countArgument (count : Byte) : Argument := count.setWidth Config.argWidth

/-- The effective frame of a running `SENDCMD`: `CMD55(0)` in the prefix of an app-command (R111), else the
descriptor's own (R71). DESIGN CHOICE (log entry 29): during the prefix the registers keep the target's descriptor, and 55
and 0 are constants. Unsafe. -/
def wireFrame (pfx : Bool) (idx : Index) (arg : Argument) : FrameWord :=
  if pfx then frameOf Config.idxAppCmd 0#Config.argWidth else frameOf idx arg

/-- The byte of a sent token (R80). -/
def TxToken.byte : TxToken → Byte
  | .startBlock => Config.tokenStartBlock
  | .multiWrite => Config.tokenMultiWrite
  | .stopTran => Config.tokenStopTran

/-- A received byte widened to 32 bits (R83: "zero-extended to 32 bits before shifting"). -/
def wide (b : Byte) : Word32 := b.setWidth 32

/-- CSD structure version, `csd[0] >> 6` (R83). -/
def csdVersion (csd : Vector Byte 16) : Byte := csd[0] >>> 6

/-- Version 1 and later `C_SIZE` (R83). -/
def csdSizeV2 (csd : Vector Byte 16) : Word32 :=
  (wide (csd[7] &&& 63#8) <<< 16) ||| (wide csd[8] <<< 8) ||| wide csd[9]

/-- The version-0 exponent `n = READ_BL_LEN + C_SIZE_MULT + 2` (R83, R187). -/
def csdExponentV1 (csd : Vector Byte 16) : Word32 :=
  wide (csd[5] &&& 15#8) + (wide (csd[10] &&& 128#8) >>> 7) + (wide (csd[9] &&& 3#8) <<< 1) + 2#32

/-- The version-0 `C_SIZE` (R83). -/
def csdSizeV1 (csd : Vector Byte 16) : Word32 :=
  (wide csd[8] >>> 6) + (wide csd[7] <<< 2) + (wide (csd[6] &&& 3#8) <<< 10)

/-- `GET_SECTOR_COUNT` (R187); none where version 0 would shift by a negative amount (U3). -/
def sectorCount (csd : Vector Byte 16) : Option Word32 :=
  if 1#8 ≤ csdVersion csd then some ((csdSizeV2 csd + 1#32) <<< 10)
  else if csdExponentV1 csd < 9#32 then none
  else some ((csdSizeV1 csd + 1#32) <<< ((csdExponentV1 csd).toNat - 9))

/-- `GET_BLOCK_SIZE` of an SD-v2 card from byte 10 of its SD status (R84, R188). -/
def eraseSizeSd2 (sdstat : Vector Byte 16) : Word32 := 16#32 <<< (sdstat[10] >>> 4).toNat

/-- `GET_BLOCK_SIZE` of an SD-v1 card (R189, C5); none where it would shift by -1 (U2). -/
def eraseSizeSd1 (csd : Vector Byte 16) : Option Word32 :=
  if csd[13] >>> 6 = 0#8 then none
  else some ((((wide (csd[10] &&& 63#8) <<< 1) ||| (wide csd[11] >>> 7)) + 1#32) <<< ((csd[13] >>> 6).toNat - 1))

/-- `GET_BLOCK_SIZE` of an MMC card (R190). -/
def eraseSizeMmc (csd : Vector Byte 16) : Word32 :=
  ((wide (csd[10] &&& 124#8) >>> 2) + 1#32)
    * (((wide (csd[11] &&& 3#8) <<< 3) ||| (wide (csd[11] &&& 224#8) >>> 5)) + 1#32)

/-- `GET_BLOCK_SIZE` from the CSD, by card type: SD-v1, else MMC (R188). -/
def eraseSizeCsd (ct : Byte) (csd : Vector Byte 16) : Option Word32 :=
  if isSd1 ct then eraseSizeSd1 csd else some (eraseSizeMmc csd)

/-- The echo `CMD8` must return, `SCR[2] == 0x01 and SCR[3] == 0xAA` (R76, R152). -/
def echoGood (scr : Vector Byte 16) : Bool := scr[2] == 0x01#8 && scr[3] == 0xAA#8

end Sys2Proof.Machine
end

