-- ==== Sys2Proof/Machine/Ops.lean ====
section
/-! DEFINITION. The named operations the meanings are built from: the host buffers, the primitives of R11, the calls of the
micro-operations, and the delivery of a result, which stands here for taking an exception (R6, R10, R210). -/

namespace Sys2Proof.Machine

/-! ## The host buffers (R52) -/

/-- Where the byte at an offset of a host buffer stands among the cells (log entry 28): each handle has its own range of
`Config.bufferSize` cells. -/
def bufferCell (buffer : Nat) (offset : Nat) : Nat := buffer * Config.bufferSize + offset

/-- What a byte of a host buffer that nothing has written reads as (log entry 9). -/
def Memory.unlisted : Byte := 0#8

/-- The byte of one cell. -/
def Memory.read : List Host.Cell → Nat → Byte
  | [], _ => Memory.unlisted
  | (k, v) :: rest, a => if k = a then v else Memory.read rest a

/-- Write one byte, keeping the canonical form. -/
def Memory.write : List Host.Cell → Nat → Byte → List Host.Cell
  | [], a, b => if b = Memory.unlisted then [] else [(a, b)]
  | (k, v) :: rest, a, b =>
    if a < k then if b = Memory.unlisted then (k, v) :: rest else (a, b) :: (k, v) :: rest
    else if a = k then if b = Memory.unlisted then rest else (a, b) :: rest
    else (k, v) :: Memory.write rest a b

/-- The canonical form above a bound: cells rising, none below `lo`, no byte equal to what an unlisted cell reads as. -/
def Memory.wfFrom : Nat → List Host.Cell → Bool
  | _, [] => true
  | lo, (k, v) :: rest => decide (lo ≤ k) && v != Memory.unlisted && Memory.wfFrom (k + 1) rest

/-- The canonical form. -/
def Memory.wf (m : List Host.Cell) : Bool := Memory.wfFrom 0 m

/-! ## The primitives (R11) -/

/-- The byte the card answers to the next exchange (R7: any byte). -/
def State.reply (s : State) : Byte :=
  match s.card with
  | b :: _ => b
  | [] => Config.freeReply s.exchanges

/-- `Xchg(tx)` answered by `rx` (R11, R100). -/
def State.exchange (tx rx : Byte) (s : State) : State :=
  { s with card := s.card.tail, exchanges := s.exchanges + 1, trace := .exchange tx rx :: s.trace }

/-- `Xchg(tx)`, the reply dropped. -/
def State.send (tx : Byte) (s : State) : State := s.exchange tx s.reply

/-- `SetCS`. -/
def State.setCs (level : ChipSelect) (s : State) : State :=
  { s with cs := level, trace := .chipSelect level :: s.trace }

/-- `SetClk`. -/
def State.setClk (speed : ClockSpeed) (s : State) : State :=
  { s with clk := speed, trace := .clock speed :: s.trace }

/-- `SetPwr`. -/
def State.setPwr (level : Power) (s : State) : State :=
  { s with pwr := level, trace := .power level :: s.trace }

/-- `TMR1 <- v`. -/
def State.arm1 (v : Counter) (s : State) : State := { s with tmr1 := v }

/-- `TMR2 <- v`. -/
def State.arm2 (v : Counter) (s : State) : State := { s with tmr2 := v }

/-- `STAT.NotInitialized <- b`, one atomic update of one bit (R62). -/
def State.setNotInitialized (b : Bool) (s : State) : State :=
  { s with stat := s.stat.withNotInitialized b }

/-- One decrement of a counter that saturates at zero (R205, R206). -/
def countDown (t : Counter) : Counter := if t = 0#Config.tmrWidth then 0#Config.tmrWidth else t - 1#Config.tmrWidth

/-! ## Registers of the data path (R26) and the sequencer -/

/-- The sequencer moves to a place of its pseudocode. -/
def State.goto (m : Micro) (s : State) : State := { s with seq := { s.seq with micro := m } }

/-- `SCR[i] <- b`. -/
def State.setScr (i : Nat) (b : Byte) (s : State) : State := { s with scr := s.scr.setIfInBounds i b }

/-- `MemWrite(offset, 1, b)` on a host buffer (R10, R29). -/
def State.store (buffer : Nat) (offset : Nat) (b : Byte) (s : State) : State :=
  { s with buffers := Memory.write s.buffers (bufferCell buffer offset) b }

/-- `MemRead(offset, 1)` on a host buffer (R10, R29). -/
def State.load (buffer : Nat) (offset : Nat) (s : State) : Byte :=
  Memory.read s.buffers (bufferCell buffer offset)

/-- The descriptor is written by the caller of `SENDCMD` (R20, R26). -/
def State.describe (app : Bool) (idx : Index) (arg : Argument) (s : State) : State :=
  { s with app := app, idx := idx, arg := arg }

/-- A call of `SENDCMD(app, idx, arg)` in the pseudocode of an operation: the descriptor is written, and the command is
taken up next. -/
def State.call (site : Site) (app : Bool) (idx : Index) (arg : Argument) (s : State) : State :=
  { s with app := app, idx := idx, arg := arg, seq := { s.seq with site := site, micro := .issue } }

/-! ## Results (R10 `raise`, R210, R219) -/

/-- Deliver a result at the end of an operation: `SEQ <- Idle`, and the result to the host. -/
def State.deliver (r : HostResult) (s : State) : State :=
  { s with seq := { s.seq with busy := false, micro := .rest }, result := some r }

/-- The result of a request that ends in its one accepting step: a refused request (R219) and `STATUS` (R198) change
nothing else. -/
def State.answer (r : HostResult) (s : State) : State := { s with result := some r }

/-- A gate's refusal (R212 causes 1 and 2, R213, R214, R219). -/
def State.refuse (c : ResultCode) (s : State) : State := s.answer (.code c none)

/-- The exit of an operation that passed its gates: the closing `DESELECT` (R173, R197). -/
def State.close (s : State) : State := s.goto (.deselectLatch .exit)

/-- `res <- c` of an `IOCTL`, then its exit (R185). -/
def State.closeWith (c : ResultCode) (s : State) : State :=
  { s with seq := { s.seq with res := c, micro := .deselectLatch .exit } }

/-- `value <- v; res <- Ok`, then the exit; an undefined value is a free value (U2, U3; log entry 2). -/
def State.closeWithValue (v : Option Word32) (s : State) : State :=
  match v with
  | some x => { s with seq := { s.seq with res := .ok, value := some x, micro := .deselectLatch .exit } }
  | none =>
    { s with
      frees := s.frees + 1
      seq := { s.seq with res := .ok, value := some (Config.freeValue s.frees), micro := .deselectLatch .exit } }

/-! ## Reset (R235) -/

/-- The reset of the block: every register and latch at its value of R33. The host's buffers, the inputs, the record of
the bus and the environment stay as they are (log entry 10). -/
def State.applyReset (s : State) : State :=
  { State.reset with
    cdPresent := s.cdPresent
    wpActive := s.wpActive
    requestBuffer := s.requestBuffer
    buffers := s.buffers
    trace := s.trace
    card := s.card
    exchanges := s.exchanges
    agenda := s.agenda
    draws := s.draws
    frees := s.frees }

end Sys2Proof.Machine
end

