-- ==== Sys2Proof/Machine/Sequencer.lean ====
section
/-! DEFINITION. The sequencer (R27): what each micro-operation's caller does with what it returns (R110 to R114, R140,
R141, R151 to R159, R170 to R172, R185 to R193), and the primitives of R11 that are no instruction of the opcode table.
Control flow between two primitives takes no step (log entry 14). -/

namespace Sys2Proof.Machine

/-! ## INITIALIZE (spec/44_init.md) -/

/-- `pc <- Failed` with the type voided (R151 to R157); the two final states have no way out but the commit (R160). -/
def State.failInit (s : State) : State :=
  match s.seq.phase with
  | .done _ | .failed => s.goto .commit
  | _ => { s with seq := { s.seq with phase := .failed, ty := Config.ctNone, micro := .commit } }

/-- `pc <- Done(ty)` (R154, R157). -/
def State.finishInit (ty : Byte) (s : State) : State :=
  { s with seq := { s.seq with phase := .done ty, ty := ty, micro := .commit } }

/-- `pc <- p`, and on to the micro-position `m`. -/
def State.enterPhase (p : Phase) (m : Micro) (s : State) : State :=
  { s with seq := { s.seq with phase := p, micro := m } }

/-- One send of the negotiation poll (R159): `ACMD41` with HCS on the SD-v2 path (R153), else the repeat-command that
the probe chose, argument 0 (R155, R156). -/
def State.pollCommand (s : State) : State :=
  match s.seq.phase with
  | .v2Negotiate => s.call .poll true Config.idxAppSendOpCond Config.argHcs
  | _ =>
    if s.seq.ty = Config.ctSd1 then s.call .poll true Config.idxAppSendOpCond 0#Config.argWidth
    else s.call .poll false Config.idxSendOpCond 0#Config.argWidth

/-- The poll succeeded: `CMD58` on the SD-v2 path (R154), `CMD16` on the other (R156, R157). -/
def State.pollSucceeded (s : State) : State :=
  match s.seq.phase with
  | .v2Negotiate => s.call .main false Config.idxReadOcr 0#Config.argWidth
  | .v1MmcNegotiate =>
    (s.enterPhase .blockLengthSet .issue).call .main false Config.idxSetBlocklen Config.argBlocklen
  | _ => s.failInit

/-- `SENDCMD` returned `r` to `INITIALIZE`. -/
def State.initReturn (r : Byte) (s : State) : State :=
  match s.seq.phase with
  -- R151
  | .reset => if r = 1#8 then s.goto .armNegotiation else s.failInit
  -- R152
  | .interfaceCheck =>
    if r = 1#8 then s.goto (.rawIn 0)
    else (s.enterPhase .v1MmcNegotiate .issue).call .main true Config.idxAppSendOpCond 0#Config.argWidth
  -- R153, R154
  | .v2Negotiate =>
    match s.seq.site with
    | .poll => if r = 0#8 then s.goto .pollExit else s.goto .pollTest
    | _ => if r = 0#8 then s.goto (.rawIn 0) else s.failInit
  -- R155, R156
  | .v1MmcNegotiate =>
    match s.seq.site with
    | .poll => if r = 0#8 then s.goto .pollExit else s.goto .pollTest
    | _ => { s with seq := { s.seq with ty := probeType r, micro := .pollTest } }
  -- R157
  | .blockLengthSet => if r = 0#8 then s.finishInit s.seq.ty else s.failInit
  | .done _ | .failed => s.goto .commit

/-- The four raw bytes of `INITIALIZE` are in `SCR` (R76): the R7 echo (R152), or the OCR (R154). -/
def State.initRaw (s : State) : State :=
  match s.seq.phase with
  | .interfaceCheck => if echoGood s.scr then s.enterPhase .v2Negotiate .pollTest else s.failInit
  | .v2Negotiate => s.finishInit (sd2Type s.scr[0])
  | _ => s.failInit

/-- A failure with no path of its own in the running operation: `INITIALIZE` fails, any other closes. -/
def State.exitOp (s : State) : State :=
  match s.seq.op with
  | .initializeDrive _ => s.failInit
  | _ => s.close

/-! ## READ and WRITE (spec/45_block_io.md) -/

/-- `SENDCMD` returned `r` to `READ` (R170): the read command, or the `CMD12` whose response is ignored. -/
def State.readReturn (r : Byte) (s : State) : State :=
  match s.seq.site with
  | .stop => s.close
  | _ => if r = 0#8 then s.goto .tokenArm else s.close

/-- The `CMD12` after the block loop (R120, R170). -/
def State.stopRead (s : State) : State := s.call .stop false Config.idxStopTransmission 0#Config.argWidth

/-- `i <- i + 1; n <- n - 1` (R170, R172); the loop counter `N` holds the block count (R26, log entry 15). -/
def State.countBlock (s : State) : State :=
  { s with
    n := BitVec.ofNat 8 (s.seq.owed - 1)
    seq := { s.seq with moved := s.seq.moved + 1, owed := s.seq.owed - 1 } }

/-- `n <- v`. -/
def State.setOwed (v : Nat) (s : State) : State := { s with seq := { s.seq with owed := v } }

/-- `RECVBLOCK(512)` returned to `READ` (R170): single-sector, or one turn of the loop. -/
def State.readBlock (count : Byte) (received : Bool) (s : State) : State :=
  if count = 1#8 then if received then (s.setOwed 0).close else s.close
  else if received then
    if s.seq.owed - 1 = 0 then s.countBlock.stopRead else s.countBlock.goto .tokenArm
  else s.stopRead

/-- `SENDCMD` returned `r` to `WRITE`: the hint's response is ignored (R172), the write command's must be 0 (R171). -/
def State.writeReturn (count r : Byte) (s : State) : State :=
  match s.seq.site with
  | .hint => s.call .main false Config.idxWriteMultiple s.seq.addr
  | _ =>
    if r = 0#8 then s.goto (.readyArm (.block (if count = 1#8 then .startBlock else .multiWrite))) else s.close

/-- `SENDBLOCK` returned to `WRITE` (R171, R172). -/
def State.writeBlock (t : TxToken) (sent : Bool) (s : State) : State :=
  match t with
  | .startBlock => if sent then (s.setOwed 0).close else s.close
  | .multiWrite =>
    if sent then
      if s.seq.owed - 1 = 0 then s.countBlock.goto (.readyArm (.block .stopTran))
      else s.countBlock.goto (.readyArm (.block .multiWrite))
    else s.goto (.readyArm (.block .stopTran))
  | .stopTran => if sent then s.close else (s.setOwed 1).close

/-! ## IOCTL (spec/46_control.md) -/

/-- `SENDCMD` returned `r` to an `IOCTL` (R187 to R194): accepted only with 0. -/
def State.queryReturn (code r : Byte) (s : State) : State :=
  if r = 0#8 then
    if code = Config.codeGetOcr then s.goto (.rawIn 0)
    else if code = Config.codeGetSdstat then s.goto .discard
    else if code = Config.codeGetBlockSize ∧ isSd2 s.ct then s.goto .discard
    else s.goto .tokenArm
  else s.close

/-- `RECVBLOCK` returned to an `IOCTL` (R187 to R194). -/
def State.queryBlock (code : Byte) (received : Bool) (s : State) : State :=
  if received then
    if code = Config.codeGetSectorCount then s.closeWithValue (sectorCount s.scr)
    else if code = Config.codeGetBlockSize then
      if isSd2 s.ct then s.goto (.purge Config.purgeLen) else s.closeWithValue (eraseSizeCsd s.ct s.scr)
    else s.closeWith .ok
  else s.close

/-! ## Returns of the micro-operations to their callers -/

/-- `SENDCMD` returned `r` to the operation (R131). -/
def State.operationReturn (r : Byte) (s : State) : State :=
  match s.seq.op with
  | .initializeDrive _ => s.initReturn r
  | .read _ _ _ _ => s.readReturn r
  | .write _ _ count _ => s.writeReturn count r
  | .ioctl _ code _ => s.queryReturn code r
  | .status _ => s.close

/-- `SENDCMD` ended with `r`: the prefix of an app-command lets its target go only when `r <= 1` (R111). -/
def State.commandReturn (pfx : Bool) (r : Byte) (s : State) : State :=
  if pfx && passesPrefix r then ({ s with resp := r } : State).goto (.deselectLatch (.command false))
  else ({ s with resp := r } : State).operationReturn r

/-- `SELECT` returned (R106): to `SENDCMD` (R110, R112), or to `IOCTL.SYNC` (R186). -/
def State.selectReturn (c : SelectCaller) (selected : Bool) (s : State) : State :=
  match c with
  | .command pfx => if selected then s.goto (.frame pfx 0) else s.commandReturn pfx 0xFF#8
  | .sync =>
    match s.seq.op with
    | .ioctl _ _ _ => if selected then s.closeWith .ok else s.close
    | _ => s.exitOp

/-- `RECVBLOCK` returned (R140). -/
def State.blockInReturn (received : Bool) (s : State) : State :=
  match s.seq.op with
  | .read _ _ count _ => s.readBlock count received
  | .ioctl _ code _ => s.queryBlock code received
  | _ => s.exitOp

/-- `SENDBLOCK` returned (R141). -/
def State.blockOutReturn (t : TxToken) (sent : Bool) (s : State) : State :=
  match s.seq.op with
  | .write _ _ _ _ => s.writeBlock t sent
  | _ => s.exitOp

/-- `WAITREADY` returned (R107): to `SELECT`, which on failure deselects first (R106), or to `SENDBLOCK` (R141). -/
def State.readyReturn (c : ReadyCaller) (isReady : Bool) (s : State) : State :=
  match c with
  | .select c => if isReady then s.selectReturn c true else s.goto (.deselectLatch (.selectFailed c))
  | .block t => if isReady then s.goto (.token t) else s.blockOutReturn t false

/-- The four raw bytes are received (R76, R192). -/
def State.rawReturn (s : State) : State :=
  match s.seq.op with
  | .initializeDrive _ => s.initRaw
  | .ioctl _ _ _ => s.closeWith .ok
  | _ => s.exitOp

/-- The 48 purged bytes are received (R188). -/
def State.purgeReturn (s : State) : State :=
  match s.seq.op with
  | .ioctl _ _ _ => s.closeWithValue (some (eraseSizeSd2 s.scr))
  | _ => s.exitOp

/-- The closing `DESELECT` is done (R158, R173, R197): `INITIALIZE` goes on with its status update, any other operation
delivers its result. -/
def State.finish (s : State) : State :=
  match s.seq.op with
  | .initializeDrive _ => if s.seq.ty = Config.ctNone then s.goto .powerOff else s.goto .markReady
  | .read _ _ _ _ | .write _ _ _ _ => s.deliver (.code (if s.seq.owed = 0 then .ok else .error) none)
  | .ioctl _ _ _ => s.deliver (.code s.seq.res (if s.seq.res = .ok then s.seq.value else none))
  | .status _ => s.deliver (.status s.stat.toByte)

/-- `DESELECT` returned (R105). -/
def State.deselectReturn (c : DeselectCaller) (s : State) : State :=
  match c with
  | .command pfx => s.goto (.selectLatch (.command pfx))
  | .selectFailed c => s.selectReturn c false
  | .exit => s.finish

/-! ## Data blocks (R140 to R142) -/

/-- The `len` of the `RECVBLOCK` an operation calls (R142). -/
def HostOp.blockLen : HostOp → Nat
  | .read _ _ _ _ => Config.sectorSize
  | .ioctl _ code _ => if code = Config.codeGetSdstat then Config.sdstatLen else Config.regBlockLen
  | _ => Config.regBlockLen

/-- The host buffer that an operation names (R27, R29); `STATUS` and `INITIALIZE` name none and reach no buffer. -/
def HostOp.buffer : HostOp → Nat
  | .read _ _ _ buffer | .write _ _ _ buffer | .ioctl _ _ buffer => buffer
  | .status _ | .initializeDrive _ => 0

/-- Where payload byte `i` goes (R52, R140): an offset of the operation's host buffer, or none for `SCR[i]` (the two
numeric queries keep the block in `SCR`). -/
def HostOp.payloadOffset (op : HostOp) (moved i : Nat) : Option Nat :=
  match op with
  | .read _ _ _ _ => some (Config.sectorSize * moved + i)
  | .ioctl _ code _ =>
    if code = Config.codeGetSectorCount ∨ code = Config.codeGetBlockSize then none else some i
  | _ => none

/-- After payload byte `i` of a received block. -/
def State.afterPayloadIn (i : Nat) (s : State) : State :=
  if i + 1 < s.seq.op.blockLen then s.goto (.payloadIn (i + 1)) else s.goto (.crcIn Config.crcLen)

/-- One payload exchange of `RECVBLOCK` (R140), its byte put where it belongs. -/
def State.payloadInStep (i : Nat) (s : State) : Result :=
  match s.seq.op.payloadOffset s.seq.moved i with
  | some off =>
    if off < Config.bufferSize then .next (((s.send Config.fill).store s.seq.op.buffer off s.reply).afterPayloadIn i)
    else .fault .bufferOffset
  | none => .next (((s.send Config.fill).setScr i s.reply).afterPayloadIn i)

/-- After payload byte `i` of a transmitted block. -/
def State.afterPayloadOut (t : TxToken) (i : Nat) (s : State) : State :=
  if i + 1 < Config.sectorSize then s.goto (.payloadOut t (i + 1)) else s.goto (.crcOut t Config.crcLen)

/-- One payload exchange of `SENDBLOCK` (R141): byte `i` of the sector at offset `512 * i_sector` of the
operation's host buffer. -/
def State.payloadOutStep (t : TxToken) (i : Nat) (s : State) : Result :=
  if Config.sectorSize * s.seq.moved + i < Config.bufferSize then
    .next ((s.send (s.load s.seq.op.buffer (Config.sectorSize * s.seq.moved + i))).afterPayloadOut t i)
  else .fault .bufferOffset

/-- How many raw bytes follow a response (R76): the R7 payload where `INITIALIZE` checks the interface (R152), elsewhere the
OCR (R154, R192). -/
def State.rawLen (s : State) : Nat :=
  match s.seq.op, s.seq.phase with
  | .initializeDrive _, .interfaceCheck => Config.r7Len
  | _, _ => Config.ocrLen

/-- After raw byte `i` (R76). -/
def State.afterRaw (i : Nat) (s : State) : State :=
  if i + 1 < s.rawLen then s.goto (.rawIn (i + 1)) else s.rawReturn

/-- One raw byte into `SCR[i]` (R76), and for `IOCTL.GET_OCR` into the host buffer (R192). -/
def State.rawInStep (i : Nat) (s : State) : Result :=
  match s.seq.op with
  | .ioctl _ _ buffer =>
    if i < Config.bufferSize then
      .next ((((s.send Config.fill).setScr i s.reply).store buffer i s.reply).afterRaw i)
    else .fault .bufferOffset
  | _ => .next (((s.send Config.fill).setScr i s.reply).afterRaw i)

/-- After frame byte `i` (R110): the next byte, the stuff byte of `CMD12` (R114), or the response poll with
`N <- 10` (R113). -/
def State.afterFrameByte (pfx : Bool) (i : Nat) (s : State) : State :=
  if i + 1 < Config.frameLen then s.goto (.frame pfx (i + 1))
  else if !pfx ∧ s.idx = Config.idxStopTransmission then s.goto .stuff
  else ({ s with n := Config.nRespPoll } : State).goto (.response pfx)

/-! ## The primitives that are no instruction -/

/-- One primitive of the running pseudocode (R11). The six places at which an instruction of the opcode table is taken
up are not primitives of this kind: `step` decodes there. -/
def State.primitive (s : State) : Result :=
  match s.seq.micro with
  | .rest => .next s
  -- R150
  | .clockSlow => .next ((s.setClk .slow).goto (.powerUp Config.nPowerupDummy))
  | .powerUp left =>
    if left ≤ 1 then
      .next (({ s.send Config.fill with seq := { s.seq with ty := Config.ctNone } } : State).call .main false
        Config.idxGoIdle 0#Config.argWidth)
    else .next ((s.send Config.fill).goto (.powerUp (left - 1)))
  -- R105
  | .deselectLatch c => .next ((s.setCs .deasserted).goto (.deselectDummy c))
  | .deselectDummy c => .next ((s.send Config.fill).deselectReturn c)
  -- R106
  | .selectLatch c => .next ((s.setCs .asserted).goto (.selectDummy c))
  | .selectDummy c => .next ((s.send Config.fill).goto (.readyArm (.select c)))
  -- R107
  | .readyArm c => .next ((s.arm2 Config.tReady).goto (.readyPoll c))
  | .readyTest c => if s.tmr2 = 0#Config.tmrWidth then .next (s.readyReturn c false) else .next (s.goto (.readyPoll c))
  -- R110
  | .frame pfx i => .next ((s.send (frameByte (wireFrame pfx s.idx s.arg) i)).afterFrameByte pfx i)
  | .stuff => .next (({ s.send Config.fill with n := Config.nRespPoll } : State).goto (.response false))
  -- R140
  | .tokenArm => .next ((s.arm1 Config.tToken).goto .tokenPoll)
  | .tokenTest => if s.tmr1 = 0#Config.tmrWidth then .next (s.blockInReturn false) else .next (s.goto .tokenPoll)
  | .payloadIn i => s.payloadInStep i
  | .crcIn left =>
    if left ≤ 1 then .next ((s.send Config.fill).blockInReturn true)
    else .next ((s.send Config.fill).goto (.crcIn (left - 1)))
  -- R141
  | .payloadOut t i => s.payloadOutStep t i
  | .crcOut t left =>
    if left ≤ 1 then .next ((s.send Config.crcFillData).goto (.dataResponse t))
    else .next ((s.send Config.crcFillData).goto (.crcOut t (left - 1)))
  -- R76, R188, R193
  | .rawIn i => s.rawInStep i
  | .discard => .next ((s.send Config.fill).goto .tokenArm)
  | .purge left =>
    if left ≤ 1 then .next ((s.send Config.fill).purgeReturn)
    else .next ((s.send Config.fill).goto (.purge (left - 1)))
  -- R151
  | .armNegotiation =>
    .next (((s.arm1 Config.tInit).enterPhase .interfaceCheck .issue).call .main false Config.idxSendIfCond
      Config.argIfCond)
  -- R159
  | .pollTest => if s.tmr1 = 0#Config.tmrWidth then .next s.failInit else .next s.pollCommand
  | .pollExit =>
    if s.tmr1 ≠ 0#Config.tmrWidth then .next s.pollSucceeded
    else if Config.pollSuccessRule = .byResponse then .next s.pollSucceeded
    else .next s.failInit
  -- R158
  | .commit => .next (({ s with ct := s.seq.ty } : State).goto (.deselectLatch .exit))
  | .markReady => .next ((s.setNotInitialized false).goto .clockFast)
  | .clockFast => .next ((s.setClk .fast).goto .reportStatus)
  | .powerOff => .next ((s.setPwr .off).goto .markFailed)
  | .markFailed => .next ((s.setNotInitialized true).goto .reportStatus)
  | .reportStatus => .next (s.deliver (.status s.stat.toByte))
  -- taken up as instructions
  | .issue | .response _ | .readyPoll _ | .tokenPoll | .token _ | .dataResponse _ => .refused .outOfSequence

end Sys2Proof.Machine
end

