-- ==== Sys2Proof/Machine/Requests.lean ====
section
/-! DEFINITION. What the host operations share: acceptance of a request (R61, R228), the gates in their order (R218), and
the start of an operation. -/

namespace Sys2Proof.Machine

/-- A request is accepted only when `SEQ` is Idle (R61, R228). -/
def State.whenIdle (s : State) (accepted : Result) : Result :=
  if s.seq.busy then .refused .requestWhileBusy else accepted

/-- `SEQ` goes Busy with a new operation (R27), its locals fresh; the last result is withdrawn from the result port. -/
def State.start (op : HostOp) (s : State) : State :=
  { s with
    result := none
    seq := { s.seq with
      busy := true, op := op, site := .main, micro := .rest, addr := 0#Config.argWidth, owed := 0, moved := 0, res := .error,
      value := none } }

/-- The start of a transfer (R170, R171): `addr` is translated and `n <- count`. -/
def State.startTransfer (op : HostOp) (sector : Sector) (count : Byte) (s : State) : State :=
  { s.start op with
    seq := { (s.start op).seq with addr := cardAddress s.ct sector, owed := count.toNat } }

/-- The first two gates of `READ` and `WRITE` (R170, R171): drive index and zero count. -/
def badParameters (pdrv count : Byte) : Bool := pdrv != 0#8 || count == 0#8

/-- A count outside the contract (R175, U1). -/
def countOutside (count : Byte) : Bool := decide (Config.countMax < count.toNat)

/-- The two gates of `IOCTL` (R185): drive index, then `NotInitialized`. -/
def State.ioctlGate (pdrv : Byte) (s : State) (body : Result) : Result :=
  s.whenIdle
    (if pdrv ≠ 0#8 then .next (s.refuse .paramError)
     else if s.stat.notInitialized then .next (s.refuse .notReady)
     else body)

/-- The start of an `IOCTL` whose body begins with `SENDCMD(app, idx, 0)`. -/
def State.startQuery (pdrv code : Byte) (app : Bool) (idx : Index) (s : State) : State :=
  (s.start (.ioctl pdrv code s.requestBuffer)).call .main app idx 0#Config.argWidth

end Sys2Proof.Machine
end

