-- ==== Sys2Proof/Machine/BlockIo.lean ====
section
/-! DEFINITION. `READ` and `WRITE` (spec/45_block_io.md): gates, address translation, and the first command. The rest of
their pseudocode runs in Machine/Sequencer.lean. -/

namespace Sys2Proof.Machine

/-- R170. -/
def execRead (pdrv : Byte) (sector : Sector) (count : Byte) (s : State) : Result :=
  s.whenIdle
    (if badParameters pdrv count then .next (s.refuse .paramError)
     else if s.stat.notInitialized then .next (s.refuse .notReady)
     else if countOutside count then .refused .countOutOfContract
     else .next ((s.startTransfer (.read pdrv sector count s.requestBuffer) sector count).call .main false
       (if count = 1#8 then Config.idxReadSingle else Config.idxReadMultiple) (cardAddress s.ct sector)))

/-- The first command of a `WRITE` (R171, R172): `CMD24`, or for several sectors the `ACMD23` hint on an SD-family card,
else `CMD25`. -/
def State.startWrite (sector : Sector) (count : Byte) (s : State) : State :=
  if count = 1#8 then s.call .main false Config.idxWriteSingle (cardAddress s.ct sector)
  else if isSdFamily s.ct then s.call .hint true Config.idxSetWrBlockCount (countArgument count)
  else s.call .main false Config.idxWriteMultiple (cardAddress s.ct sector)

/-- R171, R172. `STAT` is read once, for both of its gates. -/
def execWrite (pdrv : Byte) (sector : Sector) (count : Byte) (s : State) : Result :=
  s.whenIdle
    (if badParameters pdrv count then .next (s.refuse .paramError)
     else if s.stat.notInitialized then .next (s.refuse .notReady)
     else if s.stat.writeProtected then .next (s.refuse .writeProtected)
     else if countOutside count then .refused .countOutOfContract
     else .next ((s.startTransfer (.write pdrv sector count s.requestBuffer) sector count).startWrite sector count))

end Sys2Proof.Machine
end

