-- ==== Sys2Proof/Machine/Wire.lean ====
section
/-! DEFINITION. What the wire instructions share: the start of a command transaction (R110), the sending of a token
(R141), and what a received byte does at the four places where the block looks at one (R107, R113, R140, R141). -/

namespace Sys2Proof.Machine

/-- The sequencer stands at a `SENDCMD` of its pseudocode, the command not yet begun. -/
def State.atIssue (s : State) : Bool := s.seq.busy && s.seq.micro == .issue

/-- The first primitive of `SENDCMD(app, idx, arg)` (R110): an app-command begins with its `CMD55` prefix, whose first
primitive, like that of every command but `CMD12`, is the `DESELECT`'s `SetCS`; `CMD12` begins with its frame (R114).
DESIGN CHOICE (log entry 29): `APP`, `IDX` and `ARG` hold the target's descriptor from here on, throughout the prefix.
Unsafe. -/
def State.startCommand (app : Bool) (idx : Index) (arg : Argument) (s : State) : State :=
  if !app ∧ idx = Config.idxStopTransmission then
    ((s.describe app idx arg).send (frameByte (frameOf idx arg) 0)).goto (.frame false 1)
  else ((s.describe app idx arg).setCs .deasserted).goto (.deselectDummy (.command app))

/-- The shared meaning of the command frames. -/
def State.sendCommand (app : Bool) (idx : Index) (arg : Argument) (s : State) : Result :=
  if s.atIssue then .next (s.startCommand app idx arg) else .refused .outOfSequence

/-- The shared meaning of the sent tokens (R141): the token, then the payload, or nothing after the stop token. -/
def State.sendToken (t : TxToken) (s : State) : Result :=
  if s.seq.busy && s.seq.micro == .token t then
    match t with
    | .stopTran => .next ((s.send t.byte).blockOutReturn .stopTran true)
    | _ => .next ((s.send t.byte).goto (.payloadOut t 0))
  else .refused .outOfSequence

/-- The exchange of the response poll and its count (R113). -/
def State.pollExchange (b : Byte) (s : State) : State :=
  { s.exchange Config.fill b with n := s.n - 1#8 }

/-- A valid response byte `b` (R113). -/
def State.takeResponse (b : Byte) (s : State) : Result :=
  match s.seq.micro with
  | .response pfx => if s.seq.busy then .next ((s.pollExchange b).commandReturn pfx b) else .refused .outOfSequence
  | _ => .refused .outOfSequence

/-- An invalid response byte `b` (R113): poll again, or after the tenth return it. -/
def State.missResponse (b : Byte) (s : State) : Result :=
  match s.seq.micro with
  | .response pfx =>
    if s.n - 1#8 = 0#8 then .next ((s.pollExchange b).commandReturn pfx b) else .next (s.pollExchange b)
  | _ => .refused .outOfSequence

/-- The start token (R140). -/
def State.takeStartToken (s : State) : Result :=
  if s.seq.busy && s.seq.micro == .tokenPoll then
    .next ((s.exchange Config.fill Config.tokenRxStart).goto (.payloadIn 0))
  else .refused .outOfSequence

/-- Another byte in the token wait (R140, R86): `0xFF` keeps waiting, any other fails the block. -/
def State.missStartToken (b : Byte) (s : State) : Result :=
  if b = Config.fill then .next ((s.exchange Config.fill b).goto .tokenTest)
  else .next ((s.exchange Config.fill b).blockInReturn false)

/-- The ready byte (R107). -/
def State.takeReady (s : State) : Result :=
  match s.seq.micro with
  | .readyPoll c =>
    if s.seq.busy then .next ((s.exchange Config.fill Config.fill).readyReturn c true) else .refused .outOfSequence
  | _ => .refused .outOfSequence

/-- A busy byte (R107): the counter is tested next. -/
def State.missReady (b : Byte) (s : State) : Result :=
  match s.seq.micro with
  | .readyPoll c => .next ((s.exchange Config.fill b).goto (.readyTest c))
  | _ => .refused .outOfSequence

/-- The accepted data response (R141). -/
def State.takeDataResponse (b : Byte) (s : State) : Result :=
  match s.seq.micro with
  | .dataResponse t =>
    if s.seq.busy then .next ((s.exchange Config.fill b).blockOutReturn t true) else .refused .outOfSequence
  | _ => .refused .outOfSequence

/-- A data response that is not accepted (R141). -/
def State.missDataResponse (b : Byte) (s : State) : Result :=
  match s.seq.micro with
  | .dataResponse t => .next ((s.exchange Config.fill b).blockOutReturn t false)
  | _ => .refused .outOfSequence

end Sys2Proof.Machine
end

