-- ==== Sys2Proof/Machine/Commands.lean ====
section
/-! DEFINITION. The sixteen command frames (spec/42_command.md R115 to R130): each begins the `SENDCMD` of its
descriptor. What the block does with the response is the caller's part, in Machine/Sequencer.lean. -/

namespace Sys2Proof.Machine

/-- R115 "reset command". -/
def execCmd0 (s : State) : Result := s.sendCommand false Config.idxGoIdle 0#Config.argWidth

/-- R116 "plain command 1". -/
def execCmd1 (s : State) : Result := s.sendCommand false Config.idxSendOpCond 0#Config.argWidth

/-- R117 "interface-condition command". -/
def execCmd8 (s : State) : Result := s.sendCommand false Config.idxSendIfCond Config.argIfCond

/-- R118 "send CSD". -/
def execCmd9 (s : State) : Result := s.sendCommand false Config.idxSendCsd 0#Config.argWidth

/-- R119 "send CID". -/
def execCmd10 (s : State) : Result := s.sendCommand false Config.idxSendCid 0#Config.argWidth

/-- R120 "stop multiple block read": sent without reselection (R114). -/
def execCmd12 (s : State) : Result := s.sendCommand false Config.idxStopTransmission 0#Config.argWidth

/-- R121 app-command "SD status". -/
def execAcmd13 (s : State) : Result := s.sendCommand true Config.idxSdStatus 0#Config.argWidth

/-- R122 "set block length". -/
def execCmd16 (s : State) : Result := s.sendCommand false Config.idxSetBlocklen Config.argBlocklen

/-- R123 "single-block-read command". -/
def execCmd17 (addr : Argument) (s : State) : Result := s.sendCommand false Config.idxReadSingle addr

/-- R124 "multi-block-read command". -/
def execCmd18 (addr : Argument) (s : State) : Result := s.sendCommand false Config.idxReadMultiple addr

/-- R125 app-command "set write block count". -/
def execAcmd23 (count : Argument) (s : State) : Result := s.sendCommand true Config.idxSetWrBlockCount count

/-- R126 "single-block-write command". -/
def execCmd24 (addr : Argument) (s : State) : Result := s.sendCommand false Config.idxWriteSingle addr

/-- R127 "multi-block-write command". -/
def execCmd25 (addr : Argument) (s : State) : Result := s.sendCommand false Config.idxWriteMultiple addr

/-- R128 app-command "send operating condition". -/
def execAcmd41 (arg : Argument) (s : State) : Result := s.sendCommand true Config.idxAppSendOpCond arg

/-- R129 the app-command prefix. -/
def execCmd55 (s : State) : Result := s.sendCommand false Config.idxAppCmd 0#Config.argWidth

/-- R130 "read OCR". -/
def execCmd58 (s : State) : Result := s.sendCommand false Config.idxReadOcr 0#Config.argWidth

end Sys2Proof.Machine
end

