-- ==== Sys2Proof/Machine/Control.lean ====
section
/-! DEFINITION. `STATUS` and the control codes (spec/46_control.md R185 to R198). -/

namespace Sys2Proof.Machine

/-- R198. -/
def execStatus (pdrv : Byte) (s : State) : Result :=
  s.whenIdle (.next (s.answer (.status (if pdrv = 0#8 then s.stat.toByte else Config.statNoInit))))

/-- R186: a `SELECT`. -/
def execIoctlSync (pdrv : Byte) (s : State) : Result :=
  s.ioctlGate pdrv (.next ((s.start (.ioctl pdrv Config.codeSync s.requestBuffer)).goto (.selectLatch .sync)))

/-- R187: `CMD9`. -/
def execIoctlGetSectorCount (pdrv : Byte) (s : State) : Result :=
  s.ioctlGate pdrv (.next (s.startQuery pdrv Config.codeGetSectorCount false Config.idxSendCsd))

/-- R188: `ACMD13` on an SD-v2 card, else `CMD9`. -/
def execIoctlGetBlockSize (pdrv : Byte) (s : State) : Result :=
  s.ioctlGate pdrv
    (if isSd2 s.ct then .next (s.startQuery pdrv Config.codeGetBlockSize true Config.idxSdStatus)
     else .next (s.startQuery pdrv Config.codeGetBlockSize false Config.idxSendCsd))

/-- R195: `CT` to the host buffer the request names; no command, only the closing `DESELECT`. -/
def execIoctlGetType (pdrv : Byte) (s : State) : Result :=
  s.ioctlGate pdrv
    (.next (((s.start (.ioctl pdrv Config.codeGetType s.requestBuffer)).store s.requestBuffer 0 s.ct).closeWith .ok))

/-- R191: `CMD9`. -/
def execIoctlGetCsd (pdrv : Byte) (s : State) : Result :=
  s.ioctlGate pdrv (.next (s.startQuery pdrv Config.codeGetCsd false Config.idxSendCsd))

/-- R194: `CMD10`. -/
def execIoctlGetCid (pdrv : Byte) (s : State) : Result :=
  s.ioctlGate pdrv (.next (s.startQuery pdrv Config.codeGetCid false Config.idxSendCid))

/-- R192: `CMD58`. -/
def execIoctlGetOcr (pdrv : Byte) (s : State) : Result :=
  s.ioctlGate pdrv (.next (s.startQuery pdrv Config.codeGetOcr false Config.idxReadOcr))

/-- R193: `ACMD13` on an SD-v2 card, else `Error` with only the closing `DESELECT`. -/
def execIoctlGetSdstat (pdrv : Byte) (s : State) : Result :=
  s.ioctlGate pdrv
    (if isSd2 s.ct then .next (s.startQuery pdrv Config.codeGetSdstat true Config.idxSdStatus)
     else .next ((s.start (.ioctl pdrv Config.codeGetSdstat s.requestBuffer)).closeWith .error))

/-- R196: `ParamError`, after the gates and with the closing `DESELECT`. -/
def execIoctlUnrecognized (pdrv code : Byte) (s : State) : Result :=
  s.ioctlGate pdrv (.next ((s.start (.ioctl pdrv code s.requestBuffer)).closeWith .paramError))

end Sys2Proof.Machine
end

