-- ==== Sys2Proof/Machine/Initialization.lean ====
section
/-! DEFINITION. `INITIALIZE` (spec/44_init.md): its acceptance. Its states run in Machine/Sequencer.lean. -/

namespace Sys2Proof.Machine

/-- R150: no gate but `pdrv`; the first primitive is `SetPwr(on)`, in state `Reset`. -/
def execInitialize (pdrv : Byte) (s : State) : Result :=
  s.whenIdle
    (if pdrv ≠ 0#8 then .next (s.answer (.status Config.statNoInit))
     else .next (((s.start (.initializeDrive pdrv)).setPwr .on).enterPhase .reset .clockSlow))

end Sys2Proof.Machine
end

