-- ==== Sys2Proof/Machine/Patterns.lean ====
section
/-! DEFINITION. The tokens the block sends and the byte patterns it recognises (R75, R78 to R82). -/

namespace Sys2Proof.Machine

/-- `TOKEN.RX_START` (R140): the payload follows. -/
def execTokenRxStart (s : State) : Result := s.takeStartToken

/-- `TOKEN.START_BLOCK` (R141). -/
def execTokenStartBlock (s : State) : Result := s.sendToken .startBlock

/-- `TOKEN.MULTI_WRITE` (R141). -/
def execTokenMultiWrite (s : State) : Result := s.sendToken .multiWrite

/-- `TOKEN.STOP_TRAN` (R141): sent alone. -/
def execTokenStopTran (s : State) : Result := s.sendToken .stopTran

/-- `R1.VALID` (R113). -/
def execR1Valid (r : BitVec 7) (s : State) : Result := s.takeResponse (responseByte r)

/-- `DATARESP.ACCEPTED` (R141); bits 7:5 are ignored. -/
def execDataRespAccepted (ignored : BitVec 3) (s : State) : Result := s.takeDataResponse (dataResponseByte ignored)

/-- `READY` (R107). -/
def execReady (s : State) : Result := s.takeReady

end Sys2Proof.Machine
end

