-- ==== Sys2Proof/Machine/Tick.lean ====
section
/-! DEFINITION. `TICK` (spec/47_tick.md R205): one atomic step, never on the bus. -/

namespace Sys2Proof.Machine

/-- R205. -/
def execTick (s : State) : Result :=
  .next { s with
    tmr1 := countDown s.tmr1
    tmr2 := countDown s.tmr2
    stat := s.stat.sampled s.cdPresent s.wpActive }

end Sys2Proof.Machine
end

