-- ==== Sys2Proof/Machine/Dispatch.lean ====
section
/-! DEFINITION. One arm per instruction. -/

namespace Sys2Proof.Machine

def exec (i : Instr) (s : State) : Host.Outcome State Fault Refusal :=
  match i with
  | .cmd0 => Sys2Proof.Machine.execCmd0 s
  | .cmd1 => Sys2Proof.Machine.execCmd1 s
  | .cmd8 => Sys2Proof.Machine.execCmd8 s
  | .cmd9 => Sys2Proof.Machine.execCmd9 s
  | .cmd10 => Sys2Proof.Machine.execCmd10 s
  | .cmd12 => Sys2Proof.Machine.execCmd12 s
  | .acmd13 => Sys2Proof.Machine.execAcmd13 s
  | .cmd16 => Sys2Proof.Machine.execCmd16 s
  | .cmd17 addr => Sys2Proof.Machine.execCmd17 addr s
  | .cmd18 addr => Sys2Proof.Machine.execCmd18 addr s
  | .acmd23 count => Sys2Proof.Machine.execAcmd23 count s
  | .cmd24 addr => Sys2Proof.Machine.execCmd24 addr s
  | .cmd25 addr => Sys2Proof.Machine.execCmd25 addr s
  | .acmd41 arg => Sys2Proof.Machine.execAcmd41 arg s
  | .cmd55 => Sys2Proof.Machine.execCmd55 s
  | .cmd58 => Sys2Proof.Machine.execCmd58 s
  | .tokenRxStart => Sys2Proof.Machine.execTokenRxStart s
  | .tokenStartBlock => Sys2Proof.Machine.execTokenStartBlock s
  | .tokenMultiWrite => Sys2Proof.Machine.execTokenMultiWrite s
  | .tokenStopTran => Sys2Proof.Machine.execTokenStopTran s
  | .r1Valid r => Sys2Proof.Machine.execR1Valid r s
  | .dataRespAccepted ignored => Sys2Proof.Machine.execDataRespAccepted ignored s
  | .ready => Sys2Proof.Machine.execReady s
  | .status pdrv => Sys2Proof.Machine.execStatus pdrv s
  | .initializeDrive pdrv => Sys2Proof.Machine.execInitialize pdrv s
  | .read pdrv sector count => Sys2Proof.Machine.execRead pdrv sector count s
  | .write pdrv sector count => Sys2Proof.Machine.execWrite pdrv sector count s
  | .ioctlSync pdrv => Sys2Proof.Machine.execIoctlSync pdrv s
  | .ioctlGetSectorCount pdrv => Sys2Proof.Machine.execIoctlGetSectorCount pdrv s
  | .ioctlGetBlockSize pdrv => Sys2Proof.Machine.execIoctlGetBlockSize pdrv s
  | .ioctlGetType pdrv => Sys2Proof.Machine.execIoctlGetType pdrv s
  | .ioctlGetCsd pdrv => Sys2Proof.Machine.execIoctlGetCsd pdrv s
  | .ioctlGetCid pdrv => Sys2Proof.Machine.execIoctlGetCid pdrv s
  | .ioctlGetOcr pdrv => Sys2Proof.Machine.execIoctlGetOcr pdrv s
  | .ioctlGetSdstat pdrv => Sys2Proof.Machine.execIoctlGetSdstat pdrv s
  | .ioctlUnrecognized pdrv code => Sys2Proof.Machine.execIoctlUnrecognized pdrv code s
  | .tick => Sys2Proof.Machine.execTick s

end Sys2Proof.Machine
end

