-- ==== Sys2Proof/Machine/Fetch.lean ====
section
/-! DEFINITION. Which agent moves next (R7, R60), and what stands on its port: the block fetches no instruction from a
memory (R64), so "fetching" is reading the port of the agent whose move it is. -/

namespace Sys2Proof.Machine

/-- The next move. -/
def State.nextEvent (s : State) : Event :=
  match s.agenda with
  | e :: _ => e
  | [] => Config.freeEvent s.draws

/-- The state with that move taken from the agenda. -/
def State.popEvent (s : State) : State :=
  match s.agenda with
  | _ :: rest => { s with agenda := rest }
  | [] => { s with draws := s.draws + 1 }

/-- The state in which a move is made: a request puts its buffer handle on the request port (R29, R90). -/
def State.present (e : Event) (s : State) : State :=
  match e with
  | .request buffer _ => { s with requestBuffer := buffer }
  | .foreground | .tick | .lines _ _ | .hostWrite _ _ _ | .reset => s

/-- The state in which the next move is made: the move taken from the agenda, and its handle on the port. -/
def State.taken (s : State) : State := s.popEvent.present s.nextEvent

/-- What the foreground sequencer is about to send or has just been answered, at the six places where that is an
instruction of the opcode table. -/
def State.wireSignal (s : State) : Option Signal :=
  if s.seq.busy then
    match s.seq.micro with
    | .issue => some (.frame s.app (frameOf s.idx s.arg))
    | .token t => some (.sentToken t.byte)
    | .response _ => some (.response s.reply)
    | .tokenPoll => some (.startToken s.reply)
    | .readyPoll _ => some (.readyByte s.reply)
    | .dataResponse _ => some (.dataResponse s.reply)
    | _ => none
  else none

/-- The port of the agent that moves. -/
def State.signal (e : Event) (s : State) : Option Signal :=
  match e with
  | .tick => some (.event 1#1)
  | .request _ w => some (.request w)
  | .foreground => s.wireSignal
  | .lines _ _ | .hostWrite _ _ _ | .reset => none

/-- A word that is no instruction: a byte the block was waiting for in vain has the effect its rule gives it; a request
that is no operation, and a descriptor that is no command, are refused by name. -/
def State.unmatched (sig : Signal) (s : State) : Result :=
  match sig with
  | .frame _ _ => .refused .commandNotEmitted
  | .sentToken _ => .refused .outOfSequence
  | .response b => s.missResponse b
  | .startToken b => s.missStartToken b
  | .readyByte b => s.missReady b
  | .dataResponse b => s.missDataResponse b
  | .request _ => .refused .notAnOperation
  | .event _ => .refused .outOfSequence

/-- The host writes a byte of one of its buffers (R31, R52): only while the block is Idle. DESIGN CHOICE (log entry 12):
while Busy a write to any handle is refused, also to a buffer the running operation does not name and during `INITIALIZE`,
which names none; R52, R243 and D31 bar only "the buffer". Safe. -/
def State.hostWrites (buffer : Nat) (offset : Nat) (b : Byte) (s : State) : Result :=
  if s.seq.busy then .refused .hostBufferWhileBusy
  else if offset < Config.bufferSize then .next (s.store buffer offset b)
  else .fault .bufferOffset

/-- A move with nothing to decode: a primitive of the running pseudocode (nothing when Idle), the signal sources, the
host at its buffer, or reset. -/
def State.moveOf (e : Event) (s : State) : Result :=
  match e with
  | .foreground => if s.seq.busy then s.primitive else .next s
  | .lines cd wp => .next { s with cdPresent := cd, wpActive := wp }
  | .hostWrite buffer offset b => s.hostWrites buffer offset b
  | .reset => .next s.applyReset
  | .tick | .request _ _ => .refused .outOfSequence

/-! ## Placing a word where the next step takes it up -/

/-- The agenda with one more move before the others. -/
def State.pushEvent (e : Event) (s : State) : State := { s with agenda := e :: s.agenda }

/-- The card's next answer. -/
def State.pushReply (b : Byte) (s : State) : State := { s with card := b :: s.card }

/-- Where in which operation a command is emitted (R87's last column); on drive 0, with buffer 0. -/
def emitter (idx : Index) : HostOp × Phase × Site :=
  if idx = Config.idxSendIfCond then (.initializeDrive 0#8, .interfaceCheck, .main)
  else if idx = Config.idxSendOpCond ∨ idx = Config.idxAppSendOpCond then (.initializeDrive 0#8, .v1MmcNegotiate, .poll)
  else if idx = Config.idxSetBlocklen then (.initializeDrive 0#8, .blockLengthSet, .main)
  else if idx = Config.idxSendCsd then (.ioctl 0#8 Config.codeGetCsd 0, .reset, .main)
  else if idx = Config.idxSendCid then (.ioctl 0#8 Config.codeGetCid 0, .reset, .main)
  else if idx = Config.idxSdStatus then (.ioctl 0#8 Config.codeGetSdstat 0, .reset, .main)
  else if idx = Config.idxReadOcr then (.ioctl 0#8 Config.codeGetOcr 0, .reset, .main)
  else if idx = Config.idxStopTransmission then (.read 0#8 0#Config.sectorWidth 2#8 0, .reset, .stop)
  else if idx = Config.idxReadSingle then (.read 0#8 0#Config.sectorWidth 1#8 0, .reset, .main)
  else if idx = Config.idxReadMultiple then (.read 0#8 0#Config.sectorWidth 2#8 0, .reset, .main)
  else if idx = Config.idxSetWrBlockCount then (.write 0#8 0#Config.sectorWidth 2#8 0, .reset, .hint)
  else if idx = Config.idxWriteSingle then (.write 0#8 0#Config.sectorWidth 1#8 0, .reset, .main)
  else if idx = Config.idxWriteMultiple then (.write 0#8 0#Config.sectorWidth 2#8 0, .reset, .main)
  else (.initializeDrive 0#8, .reset, .main)

/-- The sequencer Busy in `op`, about to perform `m`, the foreground to move. -/
def State.standAt (op : HostOp) (p : Phase) (site : Site) (m : Micro) (s : State) : State :=
  ({ s with seq := { s.seq with busy := true, op := op, phase := p, site := site, micro := m } } : State).pushEvent
    .foreground

/-- The sent token of a byte. -/
def tokenOfByte (b : Byte) : TxToken :=
  if b = Config.tokenMultiWrite then .multiWrite else if b = Config.tokenStopTran then .stopTran else .startBlock

/-- The state in which the next step takes up exactly this signal (log entry 18). -/
def State.place (sig : Signal) (s : State) : State :=
  match sig with
  | .frame app w =>
    (s.describe app (frameIndex w) (frameArg w)).standAt (emitter (frameIndex w)).1 (emitter (frameIndex w)).2.1
      (emitter (frameIndex w)).2.2 .issue
  | .sentToken b => s.standAt (.write 0#8 0#Config.sectorWidth (if tokenOfByte b = .startBlock then 1#8 else 2#8) 0) s.seq.phase .main
      (.token (tokenOfByte b))
  | .response b =>
    ({ s.pushReply b with n := Config.nRespPoll } : State).standAt (.ioctl 0#8 Config.codeGetCsd 0) s.seq.phase .main
      (.response false)
  | .startToken b => (s.pushReply b).standAt (.read 0#8 0#Config.sectorWidth 1#8 0) s.seq.phase .main .tokenPoll
  | .readyByte b => (s.pushReply b).standAt (.ioctl 0#8 Config.codeSync 0) s.seq.phase .main (.readyPoll (.select .sync))
  | .dataResponse b =>
    (s.pushReply b).standAt (.write 0#8 0#Config.sectorWidth 1#8 0) s.seq.phase .main (.dataResponse .startBlock)
  | .request w => s.pushEvent (.request s.requestBuffer w)
  | .event _ => s.pushEvent .tick

/-- The state in which the next step takes up a word of the opcode table; unchanged if the table has no word of that
length. -/
def State.placeTableWord (nbits w : Nat) (s : State) : State :=
  match tableSignal nbits w with
  | some sig => s.place sig
  | none => s

end Sys2Proof.Machine
end

