-- ==== Sys2Proof/Machine/Step.lean ====
section
/-! DEFINITION. One step: the next agent moves. Where an instruction stands on its port, the step is that instruction. -/

namespace Sys2Proof.Machine

/-- Take up what stands on a port. -/
def takeUp (sig : Signal) (s : State) : Host.Outcome State Fault Refusal :=
  match decode sig with
  | .ok i => exec i s
  | .error _ => s.unmatched sig

/-- One step of the machine (R7, R11, R60). -/
def step (s : State) : Host.Outcome State Fault Refusal :=
  match s.taken.signal s.nextEvent with
  | some sig => takeUp sig s.taken
  | none => s.taken.moveOf s.nextEvent

/-- The state in which the next step runs the instruction of this opcode-table word. -/
def State.withFetchWord (s : State) (nbits w : Nat) : State := s.placeTableWord nbits w

end Sys2Proof.Machine
end

