-- ==== Sys2Proof/Safety.lean ====
section
/-! DEFINITION. What counts as a safe run: the results that are no fault, the invariants the rules of the block rest on
(spec/10_state.md R23, R32; spec/44_init.md R158; spec/45_block_io.md R170 to R172), and the schedules that statements
about several steps name. -/

namespace Sys2Proof.Machine

/-- A result that is no fault. -/
def NoFault (r : Result) : Prop := ∀ f, r ≠ .fault f

/-! ## Schedules -/

/-- The next `k` moves are the foreground's (R60: one of the interleavings). -/
def State.letForeground (k : Nat) (s : State) : State :=
  { s with agenda := List.replicate k .foreground ++ s.agenda }

/-- The card answers the next exchanges with these bytes (R7). -/
def State.letAnswer (bytes : List Byte) (s : State) : State := { s with card := bytes ++ s.card }

/-- The host presents a request and names its buffer, then the next `k` moves are the foreground's. -/
def State.letRequest (buffer : Nat) (w : RequestWord) (k : Nat) (s : State) : State :=
  { s with agenda := .request buffer w :: (List.replicate k .foreground ++ s.agenda) }

/-- `k` steps of the machine, stopping at the first fault or refusal. -/
def runFor : Nat → State → Result
  | 0, s => .next s
  | k + 1, s =>
    match step s with
    | .next t => runFor k t
    | .fault f => .fault f
    | .refused r => .refused r

/-- The exchanges that send these bytes and receive those, newest first as the trace lists them (R12). -/
def exchangesOf (sent received : List Byte) : List BusEvent :=
  (List.zipWith BusEvent.exchange sent received).reverse

/-- `SEQ` of an operation just accepted (R27), its locals fresh. -/
def Seq.accepted (op : HostOp) (micro : Micro) (q : Seq) : Seq :=
  { q with
    busy := true, op := op, site := .main, micro := micro, addr := 0#Config.argWidth, owed := 0, moved := 0, res := .error,
    value := none }

/-- The sequencer stands at `micro` with an operation running. -/
def State.standsAt (micro : Micro) (s : State) : Prop := s.seq.busy = true ∧ s.seq.micro = micro

/-- The drive is Ready (R227): `SEQ` Idle and `STAT.NotInitialized = 0`. -/
def State.driveReady (s : State) : Prop := s.seq.busy = false ∧ s.stat.notInitialized = false

/-- One exchange answered by `b` and its count in `N`, and the byte in `RESP`: what a response byte that ends `SENDCMD`
leaves (R26, R113). -/
def State.responded (b : Byte) (s : State) : State :=
  { s.exchange 0xFF#8 b with n := s.n - 1#8, resp := b }

/-- The foreground's next move ends `SENDCMD` without a valid response: the tenth invalid byte of its poll (R113), or the
`0xFF` that stands for the response of a failed `SELECT` (R112). `u` is what the exchange leaves, with `RESP` written. -/
def State.endsInvalid (pfx : Bool) (s u : State) : Prop :=
  s.nextEvent = .foreground ∧
    (s.standsAt (.response pfx) ∧ s.n = 1#8 ∧ s.reply.getLsbD 7 = true ∧ u = s.popEvent.responded s.reply ∨
      s.standsAt (.deselectDummy (.selectFailed (.command pfx))) ∧
        u = { s.popEvent.exchange 0xFF#8 s.reply with resp := 0xFF#8 })

/-! ## Places of the pseudocode -/

/-- `SEQ.op = INITIALIZE`. -/
def HostOp.isInitialize : HostOp → Bool
  | .initializeDrive _ => true
  | _ => false

/-- `SEQ.op = READ`. -/
def HostOp.isRead : HostOp → Bool
  | .read _ _ _ _ => true
  | _ => false

/-- `SEQ.op = WRITE`. -/
def HostOp.isWrite : HostOp → Bool
  | .write _ _ _ _ => true
  | _ => false

/-- The places at which the card is not selected although the operation runs: the power-up exchanges (R150), the dummy
exchange of a `DESELECT` (R105), and what follows the closing `DESELECT` of `INITIALIZE` (R158). -/
def Micro.released : Micro → Bool
  | .clockSlow | .powerUp _ | .deselectDummy _ => true
  | .markReady | .clockFast | .powerOff | .markFailed | .reportStatus => true
  | _ => false

/-- The closing `DESELECT` (R108). -/
def Micro.exiting : Micro → Bool
  | .deselectLatch .exit | .deselectDummy .exit => true
  | _ => false

/-- The places only `INITIALIZE` has before its commit (R151, R158, R159). -/
def Micro.negotiating : Micro → Bool
  | .armNegotiation | .pollTest | .pollExit | .commit => true
  | _ => false

/-- The places of `SENDCMD`, and of a `DESELECT` (R105, R110). -/
def Micro.inCommand : Micro → Bool
  | .issue | .deselectLatch _ | .deselectDummy _ | .selectLatch _ | .selectDummy _ => true
  | .frame _ _ | .stuff | .response _ => true
  | .readyArm (.select _) | .readyPoll (.select _) | .readyTest (.select _) => true
  | _ => false

/-- The places of `SENDBLOCK` (R141). -/
def Micro.inBlockOut : Micro → Bool
  | .readyArm (.block _) | .readyPoll (.block _) | .readyTest (.block _) => true
  | .token _ | .payloadOut _ _ | .crcOut _ _ | .dataResponse _ => true
  | _ => false

/-- The places of `SENDBLOCK(none, 0xFD)` before its token is sent (R172). -/
def Micro.stopping : Micro → Bool
  | .readyArm (.block .stopTran) | .readyPoll (.block .stopTran) | .readyTest (.block .stopTran) => true
  | .token .stopTran => true
  | _ => false

/-! ## Invariants -/

/-- The host buffers are in their canonical form. -/
def BufferCanonical (s : State) : Prop := Memory.wf s.buffers = true

/-- `CT`, and the private `ty` that will be committed to it, hold one of the five legal values (R23, R32 item 1). -/
def CardTypeLegal (s : State) : Prop := legalCardType s.ct = true ∧ legalCardType s.seq.ty = true

/-- `CS = deasserted` whenever `SEQ` is Idle (R32 item 3), and at the places where the pseudocode relies on it. -/
def CardReleased (s : State) : Prop :=
  s.seq.busy = false ∨ s.seq.micro.released = true → s.cs = .deasserted

/-- `STAT.NotInitialized = 0` implies `CT != 0x00` whenever `SEQ` is Idle (R32 item 4), with what holds inside
`INITIALIZE` around the commit (R158). -/
structure ReadyHasType (s : State) : Prop where
  committed : s.seq.busy = true → s.seq.op.isInitialize = true → s.seq.micro.exiting = true → s.ct = s.seq.ty
  marking : s.seq.busy = true → s.seq.micro = .markReady → s.ct ≠ Config.ctNone
  negotiating : s.seq.busy = true → s.seq.micro.negotiating = true → s.seq.op.isInitialize = true
  ready : s.stat.notInitialized = false →
    s.ct ≠ Config.ctNone ∨
      s.seq.busy = true ∧
        (s.seq.op.isInitialize = true ∧ s.seq.micro.exiting = true ∨ s.seq.micro = .powerOff ∨
          s.seq.micro = .markFailed)

/-- `ty` and `SEQ.phase` agree: `ty` is the type of `Done(ty)`, one of the four card types, and `0x00` in `Failed` (R158);
SD-v1 or MMC is chosen before their poll and kept until `CMD16` (R155 to R157, R160); and the places of R150 and R151
belong to state `Reset`. -/
structure PhaseCoherent (s : State) : Prop where
  done : ∀ ty, s.seq.phase = .done ty → s.seq.ty = ty ∧ legalCardType ty = true ∧ ty ≠ Config.ctNone
  failed : s.seq.phase = .failed → s.seq.ty = Config.ctNone
  blockLength : s.seq.phase = .blockLengthSet → s.seq.ty = Config.ctSd1 ∨ s.seq.ty = Config.ctMmc
  polling : s.seq.phase = .v1MmcNegotiate →
    s.seq.site = .poll ∨ s.seq.micro = .pollTest ∨ s.seq.micro = .pollExit →
      s.seq.ty = Config.ctSd1 ∨ s.seq.ty = Config.ctMmc
  poweringUp : s.seq.busy = true → s.seq.micro = .clockSlow ∨ (∃ left, s.seq.micro = .powerUp left) →
    s.seq.phase = .reset
  arming : s.seq.busy = true → s.seq.micro = .armNegotiation → s.seq.phase = .reset

/-- The sectors moved and owed stay within the contract's 128 (R8 `COUNT_MAX`, R170, R172), and the byte counts of the
blocks within their lengths (R142): what keeps every access inside the host buffer. -/
structure TransferBounded (s : State) : Prop where
  stopRead : s.seq.busy = true → s.seq.op.isRead = true → s.seq.site = .stop → s.seq.micro.inCommand = true
  blockOut : s.seq.busy = true → s.seq.micro.inBlockOut = true → s.seq.op.isWrite = true
  owes : s.seq.busy = true → s.seq.op.isRead = true ∨ s.seq.op.isWrite = true →
    s.seq.op.isRead = true ∧ s.seq.site = .stop ∨ s.seq.micro.exiting = true ∨ s.seq.micro.stopping = true ∨
      1 ≤ s.seq.owed ∧ s.seq.moved + s.seq.owed ≤ Config.countMax
  payloadIn : ∀ i, s.seq.busy = true → s.seq.micro = .payloadIn i → i < s.seq.op.blockLen
  payloadOut : ∀ t i, s.seq.busy = true → s.seq.micro = .payloadOut t i → i < Config.sectorSize
  rawIn : ∀ i, s.seq.busy = true → s.seq.micro = .rawIn i → i < s.rawLen

/-- A command about to be sent is one of the sixteen (R87, R88). -/
def DescriptorEmitted (s : State) : Prop :=
  s.seq.busy = true → s.seq.micro = .issue → ∃ i, decode (.frame s.app (frameOf s.idx s.arg)) = .ok i

end Sys2Proof.Machine
end

