-- ==== Sys2Proof/Certificates/Slice0/Obligations.lean ====
section
/-! DEFINITION. The statements for the provers. A statement written as `exec i s = .next …` gives the whole next state, so
that it is the completion, the result and the frame of the instruction at once: every field that the record update does
not name, every byte of every host buffer among them, is as before. -/

open Sys2Proof Sys2Proof.Machine

/-! ## Reset and status -/

/-- R33: the values of the state after reset; the two status flags without one are open parameters. Rests on: The
values are the spec's decision D29; the two parameters are opaque (log entry 1). -/
def Obligations.ResetState : Prop :=
  State.reset.stat.notInitialized = true ∧
  State.reset.stat.noCard = Config.statResetNoDisk ∧
  State.reset.stat.writeProtected = Config.statResetProtect ∧
  State.reset.ct = 0x00#8 ∧ State.reset.tmr1 = 0#16 ∧ State.reset.tmr2 = 0#16 ∧
  State.reset.cs = .deasserted ∧ State.reset.clk = .slow ∧ State.reset.pwr = .off ∧
  State.reset.seq.busy = false

/-- R235: reset in any state, in the middle of an operation too. That the inputs, the host buffer and the record of
the bus stay is R28, R52 and R12; what the data-path registers then hold is the model's choice (log entry 6) and not
stated. Rests on: Decision D29; that the buffers, inputs and trace stay and the result is withdrawn is log entry 10.
-/
def Obligations.ResetEvent : Prop :=
  ∀ s : State, s.nextEvent = .reset → ∃ t, step s = .next t ∧
    t.stat.notInitialized = true ∧ t.ct = 0x00#8 ∧ t.tmr1 = 0#16 ∧ t.tmr2 = 0#16 ∧ t.cs = .deasserted ∧
    t.clk = .slow ∧ t.pwr = .off ∧ t.seq.busy = false ∧ t.result = none ∧
    t.buffers = s.buffers ∧ t.trace = s.trace ∧ t.cdPresent = s.cdPresent ∧ t.wpActive = s.wpActive

/-- R22: the layout of the status byte. Rests on: The bit positions are the spec's decision D3. -/
def Obligations.StatusByteLayout : Prop :=
  ∀ d : DriveStatus,
    d.toByte.getLsbD 0 = d.notInitialized ∧ d.toByte.getLsbD 1 = d.noCard ∧
    d.toByte.getLsbD 2 = d.writeProtected ∧ d.toByte.extractLsb' 3 5 = 0#5

/-- R198: `STATUS`. Rests on: The byte for another drive is decision D20; that the result stands on a port of State is
log entry 14. -/
def Obligations.StatusOperation : Prop :=
  ∀ (s : State) (pdrv : Byte), s.seq.busy = false →
    exec (.status pdrv) s =
      .next { s with result := some (.status (if pdrv = 0#8 then s.stat.toByte else 0x01#8)) }

/-! ## Gates and refusals -/

/-- R212 causes 1 and 2, R218, R219: `ParamError`, whatever the drive's status is, and nothing else changes. Rests on:
The order of the gates and that a refusal changes nothing are decision D21. -/
def Obligations.ParamErrorGates : Prop :=
  ∀ s : State, s.seq.busy = false →
    (∀ (pdrv : Byte) (sector : Sector) (count : Byte), pdrv ≠ 0#8 ∨ count = 0#8 →
      ∀ i ∈ [Instr.read pdrv sector count, .write pdrv sector count],
        exec i s = .next { s with result := some (.code .paramError none) }) ∧
    (∀ pdrv code : Byte, pdrv ≠ 0#8 →
      ∀ i ∈ [Instr.ioctlSync pdrv, .ioctlGetSectorCount pdrv, .ioctlGetBlockSize pdrv, .ioctlGetType pdrv,
          .ioctlGetCsd pdrv, .ioctlGetCid pdrv, .ioctlGetOcr pdrv, .ioctlGetSdstat pdrv,
          .ioctlUnrecognized pdrv code],
        exec i s = .next { s with result := some (.code .paramError none) })

/-- R213, R218, R219: `NotReady`, before the write-protect gate and for an unrecognized code too. Rests on: The order
of the gates and that a refusal changes nothing are decision D21; for a count of 129 to 255, to which the spec gives
no meaning (R86, U1), that NotReady is still delivered is the model's choice of log entry 11. -/
def Obligations.NotReadyGates : Prop :=
  ∀ s : State, s.seq.busy = false → s.stat.notInitialized = true →
    ∀ (sector : Sector) (count code : Byte), count ≠ 0#8 →
      ∀ i ∈ [Instr.read 0#8 sector count, .write 0#8 sector count, .ioctlSync 0#8, .ioctlGetSectorCount 0#8,
          .ioctlGetBlockSize 0#8, .ioctlGetType 0#8, .ioctlGetCsd 0#8, .ioctlGetCid 0#8, .ioctlGetOcr 0#8,
          .ioctlGetSdstat 0#8, .ioctlUnrecognized 0#8 code],
        exec i s = .next { s with result := some (.code .notReady none) }

/-- R214, R66, R219: `WriteProtected`. Rests on: The order of the gates is decision D21; for a count of 129 to 255, to
which the spec gives no meaning (R86, U1), that WriteProtected is still delivered is the model's choice of log entry
11. -/
def Obligations.WriteProtectedGate : Prop :=
  ∀ (s : State) (sector : Sector) (count : Byte), s.driveReady → s.stat.writeProtected = true → count ≠ 0#8 →
    exec (.write 0#8 sector count) s = .next { s with result := some (.code .writeProtected none) }

/-- R228 (a request while Busy has no transition) and R175, U1 (a count above 128 has no meaning): both are refused by
name. Rests on: Decisions D24 and D31 and the treatment "refuse" of U1 and U6; log entries 11 and 12. -/
def Obligations.RequestsRefused : Prop :=
  (∀ s : State, s.seq.busy = true → ∀ (pdrv : Byte) (sector : Sector) (count code : Byte),
    ∀ i ∈ [Instr.status pdrv, .initializeDrive pdrv, .read pdrv sector count, .write pdrv sector count,
        .ioctlSync pdrv, .ioctlGetSectorCount pdrv, .ioctlGetBlockSize pdrv, .ioctlGetType pdrv, .ioctlGetCsd pdrv,
        .ioctlGetCid pdrv, .ioctlGetOcr pdrv, .ioctlGetSdstat pdrv, .ioctlUnrecognized pdrv code],
      exec i s = .refused .requestWhileBusy) ∧
  (∀ (s : State) (sector : Sector) (count : Byte), s.driveReady → 128 < count.toNat →
    exec (.read 0#8 sector count) s = .refused .countOutOfContract ∧
    (s.stat.writeProtected = false → exec (.write 0#8 sector count) s = .refused .countOutOfContract))

/-! ## How the host operations begin -/

/-- R150: `INITIALIZE` in any Idle state, whatever the status is; on another drive it only answers `0x01`. Rests on:
Decisions D19, D20 and D34; what SEQ's fresh locals are is the model's (log entry 14). -/
def Obligations.InitializeBegins : Prop :=
  ∀ s : State, s.seq.busy = false →
    exec (.initializeDrive 0#8) s =
      .next { s with
        pwr := .on, trace := .power .on :: s.trace, result := none
        seq := { Seq.accepted (.initializeDrive 0#8) .clockSlow s.seq with phase := .reset } } ∧
    ∀ pdrv : Byte, pdrv ≠ 0#8 →
      exec (.initializeDrive pdrv) s = .next { s with result := some (.status 0x01#8) }

/-- R170, R56, R175: `READ` past its gates translates the sector, owes `count` sectors, and calls `CMD17` or `CMD18`.
Rests on: The truncation of the address is decision D25, the order of the gates D21; SEQ's fresh locals are log entry
14, the buffer handle log entry 28. -/
def Obligations.ReadBegins : Prop :=
  ∀ (s : State) (sector : Sector) (count : Byte), s.driveReady → 1 ≤ count.toNat → count.toNat ≤ 128 →
    let addr : Argument := if s.ct.getLsbD 3 then sector else BitVec.ofNat 32 (sector.toNat * 512)
    exec (.read 0#8 sector count) s =
      .next { s with
        result := none, app := false, idx := if count = 1#8 then 17#6 else 18#6, arg := addr
        seq := { Seq.accepted (.read 0#8 sector count s.requestBuffer) .issue s.seq with addr := addr, owed := count.toNat } }

/-- R171, R172, R125, R56: `WRITE` past its gates calls `CMD24`, or for several sectors the `ACMD23` hint on an
SD-family card, else `CMD25`. Rests on: Decisions D17, D21 and D25; SEQ's fresh locals are log entry 14, the buffer
handle log entry 28. -/
def Obligations.WriteBegins : Prop :=
  ∀ (s : State) (sector : Sector) (count : Byte), s.driveReady → s.stat.writeProtected = false → 1 ≤ count.toNat →
    count.toNat ≤ 128 →
    let addr : Argument := if s.ct.getLsbD 3 then sector else BitVec.ofNat 32 (sector.toNat * 512)
    let q :=
      { Seq.accepted (.write 0#8 sector count s.requestBuffer) .issue s.seq with addr := addr, owed := count.toNat }
    exec (.write 0#8 sector count) s =
      if count = 1#8 then
        .next { s with result := none, app := false, idx := 24#6, arg := addr, seq := q }
      else if s.ct.getLsbD 1 || s.ct.getLsbD 2 then
        .next { s with
          result := none, app := true, idx := 23#6, arg := BitVec.ofNat 32 count.toNat
          seq := { q with site := .hint } }
      else .next { s with result := none, app := false, idx := 25#6, arg := addr, seq := q }

/-- R187, R188, R191 to R194: how the queries begin: `CMD9`, `CMD10` or `CMD58`, argument 0, and by the card type
`ACMD13` or `CMD9` for the block size, `ACMD13` or none for the SD status. Rests on: The arguments are decision D17,
the dispatch by card type D27; SEQ's fresh locals are log entry 14, the buffer handle log entry 28. -/
def Obligations.QueriesBegin : Prop :=
  ∀ s : State, s.driveReady →
    (∀ c ∈ [(Instr.ioctlGetSectorCount 0#8, 1#8, 9#6), (.ioctlGetCsd 0#8, 4#8, 9#6), (.ioctlGetCid 0#8, 5#8, 10#6),
        (.ioctlGetOcr 0#8, 6#8, 58#6)],
      exec c.1 s =
        .next { s with
          result := none, app := false, idx := c.2.2, arg := 0#32
          seq := Seq.accepted (.ioctl 0#8 c.2.1 s.requestBuffer) .issue s.seq }) ∧
    exec (.ioctlGetBlockSize 0#8) s =
      .next { s with
        result := none, app := s.ct.getLsbD 2, idx := if s.ct.getLsbD 2 then 13#6 else 9#6, arg := 0#32
        seq := Seq.accepted (.ioctl 0#8 2#8 s.requestBuffer) .issue s.seq } ∧
    exec (.ioctlGetSdstat 0#8) s =
      if s.ct.getLsbD 2 then
        .next { s with
          result := none, app := true, idx := 13#6, arg := 0#32
          seq := Seq.accepted (.ioctl 0#8 7#8 s.requestBuffer) .issue s.seq }
      else
        .next { s with result := none, seq := Seq.accepted (.ioctl 0#8 7#8 s.requestBuffer) (.deselectLatch .exit) s.seq }

/-- R186, R195, R196: the control codes that send no command. Rests on: That a gate refusal has no DESELECT and an
unrecognized code has one is decision D21; SEQ's fresh locals are log entry 14; the buffer handle is log entry 28. -/
def Obligations.PlainControlsBegin : Prop :=
  ∀ s : State, s.driveReady →
    exec (.ioctlSync 0#8) s =
      .next { s with result := none, seq := Seq.accepted (.ioctl 0#8 0#8 s.requestBuffer) (.selectLatch .sync) s.seq } ∧
    exec (.ioctlGetType 0#8) s =
      .next { s with
        result := none, buffers := Memory.write s.buffers (bufferCell s.requestBuffer 0) s.ct
        seq := { Seq.accepted (.ioctl 0#8 3#8 s.requestBuffer) (.deselectLatch .exit) s.seq with res := .ok } } ∧
    ∀ code : Byte,
      exec (.ioctlUnrecognized 0#8 code) s =
        .next { s with
          result := none
          seq := { Seq.accepted (.ioctl 0#8 code s.requestBuffer) (.deselectLatch .exit) s.seq with res := .paramError } }

/-! ## The command layer -/

/-- R71, R73: the six bytes of a frame, byte 0 the most significant of the 48-bit word. Rests on: That the CRC byte is
keyed on the index alone is decision D13. -/
def Obligations.FrameLayout : Prop :=
  ∀ (idx : Index) (arg : Argument),
    (frameOf idx arg).extractLsb' 40 8 = 0x40#8 ||| idx.setWidth 8 ∧
    (frameOf idx arg).extractLsb' 32 8 = arg.extractLsb' 24 8 ∧
    (frameOf idx arg).extractLsb' 24 8 = arg.extractLsb' 16 8 ∧
    (frameOf idx arg).extractLsb' 16 8 = arg.extractLsb' 8 8 ∧
    (frameOf idx arg).extractLsb' 8 8 = arg.extractLsb' 0 8 ∧
    (frameOf idx arg).extractLsb' 0 8 = if idx = 0#6 then 0x95#8 else if idx = 8#6 then 0x87#8 else 0x01#8

/-- R112, R115 to R119, R122 to R124, R126, R127, R129, R130: a plain command other than `CMD12` writes its descriptor
and begins with the `SetCS(deasserted)` of its reselection. Rests on: Indices and arguments are decisions D8 and D17;
that a command frame as an instruction begins its SENDCMD is log entry 13. -/
def Obligations.PlainCommandBegins : Prop :=
  ∀ (s : State) (addr : Argument), s.standsAt .issue →
    ∀ c ∈ [(Instr.cmd0, 0#6, 0#32), (.cmd1, 1#6, 0#32), (.cmd8, 8#6, 0x1AA#32), (.cmd9, 9#6, 0#32),
        (.cmd10, 10#6, 0#32), (.cmd16, 16#6, 512#32), (.cmd17 addr, 17#6, addr), (.cmd18 addr, 18#6, addr),
        (.cmd24 addr, 24#6, addr), (.cmd25 addr, 25#6, addr), (.cmd55, 55#6, 0#32), (.cmd58, 58#6, 0#32)],
      exec c.1 s =
        .next { s with
          app := false, idx := c.2.1, arg := c.2.2, cs := .deasserted
          trace := .chipSelect .deasserted :: s.trace
          seq := { s.seq with micro := .deselectDummy (.command false) } }

/-- R111, R77, R121, R125, R128: an app-command begins with its `CMD55` prefix. Rests on: Indices and arguments are
decisions D8 and D17; log entry 13; that APP, IDX and ARG hold the target's descriptor during the prefix is log entry
29. -/
def Obligations.AppCommandBegins : Prop :=
  ∀ (s : State) (arg : Argument), s.standsAt .issue →
    ∀ c ∈ [(Instr.acmd13, 13#6, 0#32), (.acmd23 arg, 23#6, arg), (.acmd41 arg, 41#6, arg)],
      exec c.1 s =
        .next { s with
          app := true, idx := c.2.1, arg := c.2.2, cs := .deasserted
          trace := .chipSelect .deasserted :: s.trace
          seq := { s.seq with micro := .deselectDummy (.command true) } }

/-- R114, R120, R74, R113: `CMD12` is sent without reselection: its first primitive is the exchange of `0x4C`; the
other five frame bytes follow, then one stuff exchange whose reply is dropped whatever it is, and `N <- 10` before the
response poll. Rests on: Index and argument are decisions D8 and D17; log entry 13; the schedule and the script are
log entries 4 and 5. -/
def Obligations.StopCommandBegins : Prop :=
  ∀ s : State, s.standsAt .issue →
    exec .cmd12 s =
      .next { s.exchange 0x4C#8 s.reply with
        app := false, idx := 12#6, arg := 0#32, seq := { s.seq with micro := .frame false 1 } } ∧
    ∀ f0 f1 f2 f3 f4 f5 stuff : Byte, s.app = false → s.idx = 12#6 → s.arg = 0#32 →
      runFor 7 ((s.letAnswer [f0, f1, f2, f3, f4, f5, stuff]).letForeground 7) =
        .next { s with
          n := 10#8, exchanges := s.exchanges + 7
          trace :=
            exchangesOf [0x4C#8, 0x00#8, 0x00#8, 0x00#8, 0x00#8, 0x01#8, 0xFF#8] [f0, f1, f2, f3, f4, f5, stuff] ++
              s.trace
          seq := { s.seq with micro := .response false } }

/-- R110, R105 to R107, R112, R71, R77, R111: the whole of a command up to its response poll, with a card that is
ready at once, the tick not intervening: a plain command; an app-command's `CMD55(0)` prefix, frame `77 00 00 00 00
01`; and, from where an accepted prefix leads (PrefixDecides), the reselection and frame of the target. Rests on: The
dummy bytes are decision D10, the shape of the wait D11, the CRC byte D13; the schedule and the script are log entries
4 and 5; that APP, IDX and ARG are unchanged by the prefix is log entry 29. -/
def Obligations.CommandTransaction : Prop :=
  ∀ (s : State) (pfx : Bool) (d0 d1 f0 f1 f2 f3 f4 f5 : Byte), s.idx ≠ 12#6 →
    (s.standsAt .issue ∧ pfx = s.app ∧ ∃ i, decode (.frame s.app (frameOf s.idx s.arg)) = .ok i) ∨
      s.standsAt (.deselectLatch (.command pfx)) →
    let frame : List Byte :=
      if pfx then [0x77#8, 0x00#8, 0x00#8, 0x00#8, 0x00#8, 0x01#8]
      else [0x40#8 ||| s.idx.setWidth 8, s.arg.extractLsb' 24 8, s.arg.extractLsb' 16 8, s.arg.extractLsb' 8 8,
        s.arg.extractLsb' 0 8, if s.idx = 0#6 then 0x95#8 else if s.idx = 8#6 then 0x87#8 else 0x01#8]
    runFor 12 ((s.letAnswer [d0, d1, 0xFF#8, f0, f1, f2, f3, f4, f5]).letForeground 12) =
      .next { s with
        cs := .asserted, tmr2 := 500#16, n := 10#8, exchanges := s.exchanges + 9
        trace :=
          exchangesOf frame [f0, f1, f2, f3, f4, f5] ++
            .exchange 0xFF#8 0xFF#8 :: .exchange 0xFF#8 d1 :: .chipSelect .asserted :: .exchange 0xFF#8 d0 ::
              .chipSelect .deasserted :: s.trace
        seq := { s.seq with micro := .response pfx } }

/-- R113: the response poll takes the first byte with bit 7 clear, and makes at most ten exchanges; after ten it
returns the tenth, whatever it is. -/
def Obligations.ResponsePollBounded : Prop :=
  ∀ (s : State) (pfx : Bool) (missed : List Byte) (last : Byte), s.standsAt (.response pfx) → s.n = 10#8 →
    (∀ b ∈ missed, b.getLsbD 7 = true) →
    missed.length < 9 ∧ last.getLsbD 7 = false ∨ missed.length = 9 →
    ∃ t, runFor (missed.length + 1)
        ((s.letAnswer (missed ++ [last])).letForeground (missed.length + 1)) = .next t ∧
      t.resp = last ∧ t.n = 10#8 - BitVec.ofNat 8 (missed.length + 1) ∧
      t.trace = exchangesOf (List.replicate (missed.length + 1) 0xFF#8) (missed ++ [last]) ++ s.trace ∧
      (∀ p, t.seq.micro ≠ .response p) ∧
      t.stat = s.stat ∧ t.ct = s.ct ∧ t.tmr1 = s.tmr1 ∧ t.tmr2 = s.tmr2 ∧ t.cs = s.cs ∧ t.clk = s.clk ∧
      t.pwr = s.pwr ∧ t.scr = s.scr ∧ t.buffers = s.buffers ∧ t.card = s.card ∧ t.seq.busy = true

/-- R111, R112, R113: in the prefix, a response of 0 or 1 lets the target go; any other is the result of the whole
app-command, the tenth invalid byte of the prefix's poll and the `0xFF` of its failed `SELECT` too: its target is
never sent. Rests on: The instruction R1.VALID as a step is log entry 13; that the prefix leaves the target's
descriptor in APP, IDX and ARG is log entry 29. -/
def Obligations.PrefixDecides : Prop :=
  ∀ s : State,
    (∀ r : BitVec 7, s.standsAt (.response true) →
      exec (.r1Valid r) s =
        if r.toNat ≤ 1 then .next ((s.responded (0#1 ++ r)).goto (.deselectLatch (.command false)))
        else exec (.r1Valid r) (s.goto (.response false))) ∧
    (∀ u, s.endsInvalid true u →
      (s.standsAt (.response true) → step s = step (s.goto (.response false))) ∧
      (s.standsAt (.deselectDummy (.selectFailed (.command true))) →
        step s = step (s.goto (.deselectDummy (.selectFailed (.command false))))))

/-- R131, R112, R113, R170 to R172, R187 to R194: what `READ`, `WRITE` and `IOCTL` do with a command's response: `r ==
0`, or ignored for `CMD12` and `ACMD23`. A tenth invalid byte, and the `0xFF` of a failed `SELECT`, are accepted
nowhere. Rests on: Decisions D12, D22, D23 and D27; log entry 13. -/
def Obligations.TransferResponses : Prop :=
  ∀ s : State,
    (∀ r : BitVec 7, s.standsAt (.response false) →
      let t := s.responded (0#1 ++ r)
      (∀ p sector count h, s.seq.op = .read p sector count h →
        exec (.r1Valid r) s =
          .next (t.goto (if s.seq.site ≠ .stop ∧ r = 0#7 then .tokenArm else .deselectLatch .exit))) ∧
      (∀ p sector count h, s.seq.op = .write p sector count h → s.seq.site ≠ .hint →
        exec (.r1Valid r) s =
          .next (t.goto (if r = 0#7 then .readyArm (.block (if count = 1#8 then .startBlock else .multiWrite))
            else .deselectLatch .exit))) ∧
      (∀ p sector count h, s.seq.op = .write p sector count h → s.seq.site = .hint →
        exec (.r1Valid r) s =
          .next { t with
            app := false, idx := 25#6, arg := s.seq.addr, seq := { s.seq with site := .main, micro := .issue } }) ∧
      (∀ p code h, s.seq.op = .ioctl p code h →
        exec (.r1Valid r) s =
          .next (t.goto
            (if r ≠ 0#7 then .deselectLatch .exit
            else if code = 6#8 then .rawIn 0
            else if code = 7#8 ∨ code = 2#8 ∧ s.ct.getLsbD 2 = true then .discard
            else .tokenArm)))) ∧
    (∀ u, s.endsInvalid false u →
      (∀ p sector count h, s.seq.op = .read p sector count h → step s = .next (u.goto (.deselectLatch .exit))) ∧
      (∀ p sector count h, s.seq.op = .write p sector count h →
        step s =
          .next (if s.seq.site = .hint then
              { u with
                app := false, idx := 25#6, arg := s.seq.addr, seq := { s.seq with site := .main, micro := .issue } }
            else u.goto (.deselectLatch .exit))) ∧
      (∀ p code h, s.seq.op = .ioctl p code h → step s = .next (u.goto (.deselectLatch .exit))))

/-- R151 to R157, R112, R113: what `INITIALIZE` does with a command's response, by its state; a tenth invalid byte and
the `0xFF` of a failed `SELECT` too. Rests on: Decisions D12, D14 and D15; log entry 13. -/
def Obligations.NegotiationResponses : Prop :=
  ∀ (s : State) (p : Byte), s.seq.op = .initializeDrive p →
    (∀ r : BitVec 7, s.standsAt (.response false) →
      let t := s.responded (0#1 ++ r)
      let failed := { t with seq := { s.seq with phase := .failed, ty := 0x00#8, micro := .commit } }
      (s.seq.phase = .reset →
        exec (.r1Valid r) s = .next (if r = 1#7 then t.goto .armNegotiation else failed)) ∧
      (s.seq.phase = .interfaceCheck →
        exec (.r1Valid r) s =
          .next (if r = 1#7 then t.goto (.rawIn 0)
            else { t with
              app := true, idx := 41#6, arg := 0#32
              seq := { s.seq with phase := .v1MmcNegotiate, site := .main, micro := .issue } })) ∧
      (s.seq.phase = .v2Negotiate ∨ s.seq.phase = .v1MmcNegotiate → s.seq.site = .poll →
        exec (.r1Valid r) s = .next (t.goto (if r = 0#7 then .pollExit else .pollTest))) ∧
      (s.seq.phase = .v2Negotiate → s.seq.site ≠ .poll →
        exec (.r1Valid r) s = .next (if r = 0#7 then t.goto (.rawIn 0) else failed)) ∧
      (s.seq.phase = .v1MmcNegotiate → s.seq.site ≠ .poll →
        exec (.r1Valid r) s =
          .next { t with seq := { s.seq with ty := if r.toNat ≤ 1 then 0x02#8 else 0x01#8, micro := .pollTest } }) ∧
      (s.seq.phase = .blockLengthSet →
        exec (.r1Valid r) s =
          .next (if r = 0#7 then { t with seq := { s.seq with phase := .done s.seq.ty, micro := .commit } }
            else failed))) ∧
    (∀ u, s.endsInvalid false u →
      (s.seq.phase = .reset ∨ s.seq.phase = .blockLengthSet ∨ s.seq.phase = .v2Negotiate ∧ s.seq.site ≠ .poll →
        step s = .next { u with seq := { s.seq with phase := .failed, ty := 0x00#8, micro := .commit } }) ∧
      (s.seq.phase = .interfaceCheck →
        step s =
          .next { u with
            app := true, idx := 41#6, arg := 0#32
            seq := { s.seq with phase := .v1MmcNegotiate, site := .main, micro := .issue } }) ∧
      (s.seq.phase = .v2Negotiate ∨ s.seq.phase = .v1MmcNegotiate → s.seq.site = .poll →
        step s = .next (u.goto .pollTest)) ∧
      (s.seq.phase = .v1MmcNegotiate → s.seq.site ≠ .poll →
        step s = .next { u with seq := { s.seq with ty := 0x01#8, micro := .pollTest } }))

/-! ## Ready wait and data blocks -/

/-- R107: `WAITREADY` arms `TMR2` to 500, polls at least once, and lets the byte decide before the counter. Rests on:
The shape of the loop is decision D11; that the test is skipped when the byte decides is log entry 24. -/
def Obligations.ReadyWait : Prop :=
  ∀ (s : State) (c : ReadyCaller), s.nextEvent = .foreground →
    (s.standsAt (.readyArm c) → step s = .next ((s.popEvent.arm2 500#16).goto (.readyPoll c))) ∧
    (s.standsAt (.readyPoll c) → s.reply ≠ 0xFF#8 →
      step s = .next ((s.popEvent.exchange 0xFF#8 s.reply).goto (.readyTest c))) ∧
    (s.standsAt (.readyTest c) → s.tmr2 ≠ 0#16 → step s = .next (s.popEvent.goto (.readyPoll c))) ∧
    (s.standsAt (.readyTest c) → s.tmr2 = 0#16 →
      (∀ k, c = .select k → step s = .next (s.popEvent.goto (.deselectLatch (.selectFailed k)))) ∧
      (∀ p sector count h, s.seq.op = .write p sector count h →
        (c = .block .startBlock → step s = .next (s.popEvent.goto (.deselectLatch .exit))) ∧
        (c = .block .multiWrite → step s = .next (s.popEvent.goto (.readyArm (.block .stopTran)))) ∧
        (c = .block .stopTran →
          step s =
            .next { s.popEvent with seq := { s.seq with owed := 1, micro := .deselectLatch .exit } })))

/-- R107, R82, R106, R141, R186: the ready byte ends the wait: `SENDCMD` sends its frame, `SENDBLOCK` its token, and
`IOCTL.SYNC` has succeeded. Rests on: Log entry 13. -/
def Obligations.ReadyTaken : Prop :=
  ∀ s : State,
    (∀ pfx, s.standsAt (.readyPoll (.select (.command pfx))) →
      exec .ready s = .next ((s.exchange 0xFF#8 0xFF#8).goto (.frame pfx 0))) ∧
    (∀ k, s.standsAt (.readyPoll (.block k)) → exec .ready s = .next ((s.exchange 0xFF#8 0xFF#8).goto (.token k))) ∧
    (∀ p code h, s.standsAt (.readyPoll (.select .sync)) → s.seq.op = .ioctl p code h →
      exec .ready s =
        .next { s.exchange 0xFF#8 0xFF#8 with
          seq := { s.seq with res := .ok, micro := .deselectLatch .exit } })

/-- R140, R144, R86, R188, R193: the token wait, after `ACMD13` behind one exchange whose reply is dropped: `TMR1`
armed to 100, `0xFF` keeps waiting while the counter runs, `0xFE` starts the payload, any other byte fails the block
at once; and what a failed block means to its caller. Rests on: The shape of the loop is decision D11, that CMD12
follows D23; log entry 24. -/
def Obligations.TokenWait : Prop :=
  ∀ s : State,
    (s.standsAt .tokenPoll → exec .tokenRxStart s = .next ((s.exchange 0xFF#8 0xFE#8).goto (.payloadIn 0))) ∧
    (s.nextEvent = .foreground →
      (s.standsAt .discard → step s = .next ((s.popEvent.exchange 0xFF#8 s.reply).goto .tokenArm)) ∧
      (s.standsAt .tokenArm → step s = .next ((s.popEvent.arm1 100#16).goto .tokenPoll)) ∧
      (s.standsAt .tokenPoll → s.reply = 0xFF#8 →
        step s = .next ((s.popEvent.exchange 0xFF#8 0xFF#8).goto .tokenTest)) ∧
      (s.standsAt .tokenTest → s.tmr1 ≠ 0#16 → step s = .next (s.popEvent.goto .tokenPoll)) ∧
      (∀ u, s.standsAt .tokenTest ∧ s.tmr1 = 0#16 ∧ u = s.popEvent ∨
          s.standsAt .tokenPoll ∧ s.reply ≠ 0xFF#8 ∧ s.reply ≠ 0xFE#8 ∧
            u = s.popEvent.exchange 0xFF#8 s.reply →
        (∀ p sector count h, s.seq.op = .read p sector count h → count = 1#8 →
          step s = .next (u.goto (.deselectLatch .exit))) ∧
        (∀ p sector count h, s.seq.op = .read p sector count h → count ≠ 1#8 →
          step s =
            .next { u with
              app := false, idx := 12#6, arg := 0#32, seq := { s.seq with site := .stop, micro := .issue } }) ∧
        (∀ p code h, s.seq.op = .ioctl p code h → step s = .next (u.goto (.deselectLatch .exit)))))

/-- R52, R140, R142, R170, R191, R193, R194: once the token is accepted, the payload is received byte for byte,
unconditionally, into the caller's range of the host buffer the operation names, no other byte of any buffer changes,
and two bytes more are exchanged and dropped. Then: a single-sector `READ` owes nothing and closes; a multi-sector
`READ` counts the sector (`i + 1`, `n - 1`) and waits for the next token, or after the last one calls `CMD12`;
`GET_CSD`, `GET_CID` and `GET_SDSTAT` close with `Ok`. Rests on: Bytes go to the buffer one by one as they arrive
(R243, log entry 14); what an unwritten byte reads as (log entry 9) is not used; N beside SEQ's count is log entry 15,
the buffer handle log entry 28. -/
def Obligations.BlockReceived : Prop :=
  ∀ (s : State) (h : Nat) (base len : Nat) (payload : List Byte) (c0 c1 : Byte), s.standsAt .tokenPoll →
    BufferCanonical s →
    ((∃ p sector count, s.seq.op = .read p sector count h) ∧ s.seq.moved < 128 ∧ len = 512 ∧
        base = 512 * s.seq.moved ∨
      (∃ p code, s.seq.op = .ioctl p code h ∧ (code = 4#8 ∨ code = 5#8)) ∧ len = 16 ∧ base = 0 ∨
      (∃ p, s.seq.op = .ioctl p 7#8 h) ∧ len = 64 ∧ base = 0) →
    payload.length = len →
    ∃ buffers,
      (∀ k < len, Memory.read buffers (bufferCell h (base + k)) = payload.getD k 0#8) ∧
      (∀ c, c < bufferCell h base ∨ bufferCell h (base + len) ≤ c → Memory.read buffers c = Memory.read s.buffers c) ∧
      let run := runFor (len + 3) ((s.letAnswer (0xFE#8 :: payload ++ [c0, c1])).letForeground (len + 3))
      let t := { s with
        buffers := buffers, exchanges := s.exchanges + (len + 3)
        trace := exchangesOf (List.replicate (len + 3) 0xFF#8) (0xFE#8 :: payload ++ [c0, c1]) ++ s.trace }
      let counted := { s.seq with moved := s.seq.moved + 1, owed := s.seq.owed - 1 }
      (∀ p sector count, s.seq.op = .read p sector count h → count = 1#8 →
        run = .next { t with seq := { s.seq with owed := 0, micro := .deselectLatch .exit } }) ∧
      (∀ p sector count, s.seq.op = .read p sector count h → count ≠ 1#8 → 2 ≤ s.seq.owed →
        run = .next { t with n := BitVec.ofNat 8 (s.seq.owed - 1), seq := { counted with micro := .tokenArm } }) ∧
      (∀ p sector count, s.seq.op = .read p sector count h → count ≠ 1#8 → s.seq.owed ≤ 1 →
        run = .next { t with
          n := 0#8, app := false, idx := 12#6, arg := 0#32, seq := { counted with site := .stop, micro := .issue } }) ∧
      (∀ p code, s.seq.op = .ioctl p code h →
        run = .next { t with seq := { s.seq with res := .ok, micro := .deselectLatch .exit } })

/-- R141, R80: what the three tokens do: the two data tokens are followed by the payload, the stop token by nothing.
Rests on: The token values are decision D9; log entry 13. -/
def Obligations.TokensSent : Prop :=
  ∀ s : State,
    (s.standsAt (.token .startBlock) →
      exec .tokenStartBlock s = .next ((s.exchange 0xFE#8 s.reply).goto (.payloadOut .startBlock 0))) ∧
    (s.standsAt (.token .multiWrite) →
      exec .tokenMultiWrite s = .next ((s.exchange 0xFC#8 s.reply).goto (.payloadOut .multiWrite 0))) ∧
    (∀ p sector count h, s.standsAt (.token .stopTran) → s.seq.op = .write p sector count h →
      exec .tokenStopTran s = .next ((s.exchange 0xFD#8 s.reply).goto (.deselectLatch .exit)))

/-- R141, R79, R52: after a data token the 512 bytes of the sector's range of the operation's host buffer are sent in
offset order, then two filler bytes `0xFF`, whatever the card answers; the buffer is only read. Rests on: The two
filler bytes are decision D10; the buffer handle is log entry 28. -/
def Obligations.BlockSent : Prop :=
  ∀ (s : State) (k : TxToken) (replies : List Byte), s.standsAt (.payloadOut k 0) → s.seq.moved < 128 →
    replies.length = 514 →
    runFor 514 ((s.letAnswer replies).letForeground 514) =
      .next { s with
        exchanges := s.exchanges + 514
        trace :=
          exchangesOf ((List.range 512).map (fun i => s.load s.seq.op.buffer (512 * s.seq.moved + i)) ++
            [0xFF#8, 0xFF#8]) replies ++ s.trace
        seq := { s.seq with micro := .dataResponse k } }

/-- R81, R141, R171, R172: the data response decides the block: accepted iff its low five bits are `0b00101`. Rests
on: Decision D23; the register N beside SEQ's count is log entry 15. -/
def Obligations.DataResponse : Prop :=
  ∀ (s : State) (p : Byte) (sector : Sector) (count : Byte) (h : Nat), s.seq.op = .write p sector count h →
    (∀ ignored : BitVec 3,
      (s.standsAt (.dataResponse .startBlock) →
        exec (.dataRespAccepted ignored) s =
          .next { s.exchange 0xFF#8 (ignored ++ 0b00101#5) with
            seq := { s.seq with owed := 0, micro := .deselectLatch .exit } }) ∧
      (s.standsAt (.dataResponse .multiWrite) →
        exec (.dataRespAccepted ignored) s =
          .next { s.exchange 0xFF#8 (ignored ++ 0b00101#5) with
            n := BitVec.ofNat 8 (s.seq.owed - 1)
            seq := { s.seq with
              moved := s.seq.moved + 1, owed := s.seq.owed - 1
              micro := .readyArm (.block (if s.seq.owed - 1 = 0 then .stopTran else .multiWrite)) } })) ∧
    (s.nextEvent = .foreground → s.reply.extractLsb' 0 5 ≠ 0b00101#5 →
      (s.standsAt (.dataResponse .startBlock) →
        step s = .next ((s.popEvent.exchange 0xFF#8 s.reply).goto (.deselectLatch .exit))) ∧
      (s.standsAt (.dataResponse .multiWrite) →
        step s = .next ((s.popEvent.exchange 0xFF#8 s.reply).goto (.readyArm (.block .stopTran)))))

/-- R76, R152, R154, R192: the four raw bytes go to `SCR[0..3]`; `INITIALIZE` then tests the echo or bit 6 of the
first OCR byte, and `IOCTL.GET_OCR` has them in the host buffer too and cannot fail. Rests on: Decision D14; that
GET_OCR's bytes stand in SCR too is log entry 25, the buffer handle log entry 28. -/
def Obligations.RawBytesReceived : Prop :=
  ∀ (s : State) (b0 b1 b2 b3 : Byte), s.standsAt (.rawIn 0) → BufferCanonical s →
    let run := runFor 4 ((s.letAnswer [b0, b1, b2, b3]).letForeground 4)
    let t := { s with
      scr := (((s.scr.setIfInBounds 0 b0).setIfInBounds 1 b1).setIfInBounds 2 b2).setIfInBounds 3 b3
      exchanges := s.exchanges + 4
      trace := exchangesOf [0xFF#8, 0xFF#8, 0xFF#8, 0xFF#8] [b0, b1, b2, b3] ++ s.trace }
    (∀ p, s.seq.op = .initializeDrive p → s.seq.phase = .interfaceCheck →
      run = .next (if b2 = 0x01#8 ∧ b3 = 0xAA#8 then
          { t with seq := { s.seq with phase := .v2Negotiate, micro := .pollTest } }
        else { t with seq := { s.seq with phase := .failed, ty := 0x00#8, micro := .commit } })) ∧
    (∀ p, s.seq.op = .initializeDrive p → s.seq.phase = .v2Negotiate →
      let ty := if b0.getLsbD 6 then 0x0C#8 else 0x04#8
      run = .next { t with seq := { s.seq with phase := .done ty, ty := ty, micro := .commit } }) ∧
    (∀ p code h, s.seq.op = .ioctl p code h →
      ∃ buffers,
        run = .next { t with
          buffers := buffers, seq := { s.seq with res := .ok, micro := .deselectLatch .exit } } ∧
        (∀ k < 4, Memory.read buffers (bufferCell h k) = [b0, b1, b2, b3].getD k 0#8) ∧
        (∀ c, c < bufferCell h 0 ∨ bufferCell h 4 ≤ c → Memory.read buffers c = Memory.read s.buffers c))

/-! ## The numbers of the queries -/

/-- R187, R83, U3: `IOCTL.GET_SECTOR_COUNT` from its start token to its result. Where the version-0 exponent is below
9 the value is the free value, whatever it is (log entry 2), and the result is still `Ok`. Rests on: The version-0
formula is decision D35, the wrap D37; the free value is log entry 2. -/
def Obligations.SectorCountDelivered : Prop :=
  ∀ (s : State) (p : Byte) (h : Nat) (csd : Vector Byte 16) (c0 c1 d : Byte), s.standsAt .tokenPoll →
    s.seq.op = .ioctl p 1#8 h →
    let b := fun (i : Fin 16) => csd[i].toNat
    let e := b 5 % 16 + b 10 / 128 + (b 9 % 4) * 2 + 2
    ∃ v : Word32,
      runFor 21 ((s.letAnswer (0xFE#8 :: csd.toList ++ [c0, c1, d])).letForeground 21) =
        .next { s with
          scr := csd, cs := .deasserted, exchanges := s.exchanges + 20
          frees := if b 0 / 64 = 0 ∧ e < 9 then s.frees + 1 else s.frees
          result := some (.code .ok (some v))
          trace :=
            .exchange 0xFF#8 d :: .chipSelect .deasserted ::
              (exchangesOf (List.replicate 19 0xFF#8) (0xFE#8 :: csd.toList ++ [c0, c1]) ++ s.trace)
          seq := { s.seq with busy := false, micro := .rest, res := .ok, value := some v } } ∧
      (1 ≤ b 0 / 64 → v.toNat = ((b 7 % 64) * 65536 + b 8 * 256 + b 9 + 1) * 1024 % 2 ^ 32) ∧
      (b 0 / 64 = 0 → 9 ≤ e → v.toNat = (b 8 / 64 + b 7 * 4 + (b 6 % 4) * 1024 + 1) * 2 ^ (e - 9) % 2 ^ 32) ∧
      (b 0 / 64 = 0 → e < 9 → v = Config.freeValue s.frees)

/-- R188, R84, R254: `IOCTL.GET_BLOCK_SIZE` on an SD-v2 card from its start token to its result: 16 status bytes and
two more, 48 purged, and the value `16 << (byte10 >> 4)`. Rests on: The order of the type tests is decision D27. -/
def Obligations.EraseSizeOfSd2 : Prop :=
  ∀ (s : State) (p : Byte) (h : Nat) (status : Vector Byte 16) (rest : List Byte) (d : Byte),
    s.standsAt .tokenPoll →
    s.seq.op = .ioctl p 2#8 h → s.ct.getLsbD 2 = true → rest.length = 50 →
    let v : Word32 := BitVec.ofNat 32 (16 * 2 ^ (status[10].toNat / 16))
    runFor 69 ((s.letAnswer (0xFE#8 :: status.toList ++ rest ++ [d])).letForeground 69) =
      .next { s with
        scr := status, cs := .deasserted, exchanges := s.exchanges + 68
        result := some (.code .ok (some v))
        trace :=
          .exchange 0xFF#8 d :: .chipSelect .deasserted ::
            (exchangesOf (List.replicate 67 0xFF#8) (0xFE#8 :: status.toList ++ rest) ++ s.trace)
        seq := { s.seq with busy := false, micro := .rest, res := .ok, value := some v } }

/-- R188 to R190, R83, U2: the same on an SD-v1 or MMC card, from the CSD. On an SD-v1 card with `csd[13] >> 6 = 0`
the value is the free value, whatever it is (log entry 2). Rests on: The formulas are decisions D26 and D35, the type
tests D27; the free value is log entry 2. -/
def Obligations.EraseSizeOfCsd : Prop :=
  ∀ (s : State) (p : Byte) (h : Nat) (csd : Vector Byte 16) (c0 c1 d : Byte), s.standsAt .tokenPoll →
    s.seq.op = .ioctl p 2#8 h → s.ct.getLsbD 2 = false →
    let b := fun (i : Fin 16) => csd[i].toNat
    ∃ v : Word32,
      runFor 21 ((s.letAnswer (0xFE#8 :: csd.toList ++ [c0, c1, d])).letForeground 21) =
        .next { s with
          scr := csd, cs := .deasserted, exchanges := s.exchanges + 20
          frees := if s.ct.getLsbD 1 = true ∧ b 13 / 64 = 0 then s.frees + 1 else s.frees
          result := some (.code .ok (some v))
          trace :=
            .exchange 0xFF#8 d :: .chipSelect .deasserted ::
              (exchangesOf (List.replicate 19 0xFF#8) (0xFE#8 :: csd.toList ++ [c0, c1]) ++ s.trace)
          seq := { s.seq with busy := false, micro := .rest, res := .ok, value := some v } } ∧
      (s.ct.getLsbD 1 = true → 1 ≤ b 13 / 64 →
        v.toNat = ((b 10 % 64) * 2 + b 11 / 128 + 1) * 2 ^ (b 13 / 64 - 1)) ∧
      (s.ct.getLsbD 1 = true → b 13 / 64 = 0 → v = Config.freeValue s.frees) ∧
      (s.ct.getLsbD 1 = false → v.toNat = (b 10 / 4 % 32 + 1) * ((b 11 % 4) * 8 + b 11 / 32 + 1))

/-! ## The tick and the counters -/

/-- R205: one tick, whatever the sequencer is doing. -/
def Obligations.TickSamplesAndCounts : Prop :=
  ∀ s : State,
    exec .tick s =
      .next { s with
        tmr1 := if s.tmr1 = 0#16 then 0#16 else s.tmr1 - 1#16
        tmr2 := if s.tmr2 = 0#16 then 0#16 else s.tmr2 - 1#16
        stat :=
          { notInitialized := s.stat.notInitialized || !s.cdPresent
            noCard := !s.cdPresent
            writeProtected := s.wpActive } }

/-- R206: after `k` ticks a counter is `max(0, armed - k)`; nothing but a tick, a foreground arm and reset changes
one, and nothing but a foreground arm raises one. Rests on: That reset puts the counters to 0 is decision D29; the
places of the arms in their loops are decision D11. -/
def Obligations.CountersSaturate : Prop :=
  (∀ (s : State) (k : Nat) (rest : List Event), s.agenda = List.replicate k .tick ++ rest →
    ∃ t, runFor k s = .next t ∧ t.tmr1.toNat = s.tmr1.toNat - k ∧ t.tmr2.toNat = s.tmr2.toNat - k ∧
      t.seq = s.seq ∧ t.trace = s.trace) ∧
  (∀ s t : State, step s = .next t → t.tmr1 ≠ s.tmr1 →
    s.nextEvent = .tick ∧ t.tmr1.toNat + 1 = s.tmr1.toNat ∨ s.nextEvent = .reset ∧ t.tmr1 = 0#16 ∨
      s.nextEvent = .foreground ∧
        (s.standsAt .tokenArm ∧ t.tmr1 = 100#16 ∨ s.standsAt .armNegotiation ∧ t.tmr1 = 1000#16)) ∧
  (∀ s t : State, step s = .next t → t.tmr2 ≠ s.tmr2 →
    s.nextEvent = .tick ∧ t.tmr2.toNat + 1 = s.tmr2.toNat ∨ s.nextEvent = .reset ∧ t.tmr2 = 0#16 ∨
      s.nextEvent = .foreground ∧ (∃ c, s.standsAt (.readyArm c)) ∧ t.tmr2 = 500#16)

/-! ## Who writes what -/

/-- R22, R28, R158, R207: who writes the three status flags; and the two inputs are the signal sources' alone, whose
move changes nothing else. Rests on: Decisions D18, D29, D30 and D32; the move of the signal sources is log entry 5,
that reset keeps the inputs log entries 8 and 10. -/
def Obligations.StatusWriters : Prop :=
  (∀ s t : State, step s = .next t →
    (s.stat.notInitialized = true → t.stat.notInitialized = false →
      s.nextEvent = .foreground ∧ s.standsAt .markReady) ∧
    (s.stat.notInitialized = false → t.stat.notInitialized = true →
      s.nextEvent = .tick ∧ s.cdPresent = false ∨ s.nextEvent = .foreground ∧ s.standsAt .markFailed ∨
        s.nextEvent = .reset) ∧
    (t.stat.noCard ≠ s.stat.noCard ∨ t.stat.writeProtected ≠ s.stat.writeProtected →
      s.nextEvent = .tick ∨ s.nextEvent = .reset) ∧
    (t.cdPresent ≠ s.cdPresent ∨ t.wpActive ≠ s.wpActive → ∃ cd wp, s.nextEvent = .lines cd wp)) ∧
  (∀ (s : State) (cd wp : Bool), s.nextEvent = .lines cd wp →
    step s = .next { s.popEvent with cdPresent := cd, wpActive := wp })

/-- R23, R25, R108, R158: who writes the Card Type register and the latches; `CS` is asserted by `SELECT` and
deasserted by a `DESELECT`, whose first primitive in the reselection of a command is the command's own, or by reset.
Rests on: Decisions D18, D29 and D34; acceptance and the first primitive are one step (log entry 14), a command frame
begins its SENDCMD (log entry 13). -/
def Obligations.LatchWriters : Prop :=
  ∀ s t : State, step s = .next t →
    (t.ct ≠ s.ct → s.nextEvent = .reset ∨
      s.nextEvent = .foreground ∧ s.standsAt .commit ∧ t.ct = s.seq.ty) ∧
    (t.clk ≠ s.clk → s.nextEvent = .reset ∨
      s.nextEvent = .foreground ∧
        (s.standsAt .clockSlow ∧ t.clk = .slow ∨ s.standsAt .clockFast ∧ t.clk = .fast)) ∧
    (t.pwr = .on → s.pwr = .off →
      ∃ h w, s.nextEvent = .request h w ∧ decode (.request w) = .ok (.initializeDrive 0#8)) ∧
    (t.pwr = .off → s.pwr = .on → s.nextEvent = .reset ∨ s.nextEvent = .foreground ∧ s.standsAt .powerOff) ∧
    (t.cs = .asserted → s.cs = .deasserted →
      s.nextEvent = .foreground ∧ ∃ c, s.standsAt (.selectLatch c)) ∧
    (t.cs = .deasserted → s.cs = .asserted → s.nextEvent = .reset ∨
      s.nextEvent = .foreground ∧
        ((∃ c, s.standsAt (.deselectLatch c)) ∨
          s.standsAt .issue ∧ (s.app = true ∨ s.idx ≠ 12#6) ∧ t.seq.micro = .deselectDummy (.command s.app)))

/-- R11, R12, R60, R61: a step appends at most one event to the bus trace and takes none away, and only the foreground
or the acceptance of `INITIALIZE` appends one; the tick never does. Rests on: Decision D30; the trace in State is log
entry 16, the acceptance in one step log entry 14. -/
def Obligations.OneBusEvent : Prop :=
  ∀ s t : State, step s = .next t →
    (t.trace = s.trace ∨ ∃ e, t.trace = e :: s.trace) ∧
    (t.trace ≠ s.trace →
      s.nextEvent = .foreground ∧ s.seq.busy = true ∨
        ∃ h w, s.nextEvent = .request h w ∧ decode (.request w) = .ok (.initializeDrive 0#8))

/-- R52, R140, R192, R195, R243: who writes the host buffers, and which byte: a received payload byte goes to its
offset of the operation's buffer, a raw byte `i` of an `IOCTL` to offset `i`, `GET_TYPE` writes `CT` to offset 0 of
the buffer its request names, and the host, while the block is Idle, the byte of its own move. Rests on: Decision D31;
log entries 5, 12, 14, 20, 25 and 28. -/
def Obligations.BufferWriters : Prop :=
  ∀ s t : State, step s = .next t → t.buffers ≠ s.buffers →
    (s.nextEvent = .foreground ∧
        ((∃ i a, s.standsAt (.payloadIn i) ∧ s.seq.op.payloadOffset s.seq.moved i = some a ∧ a < 65536 ∧
            t.buffers = Memory.write s.buffers (bufferCell s.seq.op.buffer a) s.reply) ∨
          ∃ i p code h, s.standsAt (.rawIn i) ∧ s.seq.op = .ioctl p code h ∧ i < 65536 ∧
            t.buffers = Memory.write s.buffers (bufferCell h i) s.reply)) ∨
      (∃ h w, s.nextEvent = .request h w ∧ s.seq.busy = false ∧ decode (.request w) = .ok (.ioctlGetType 0#8) ∧
        t.buffers = Memory.write s.buffers (bufferCell h 0) s.ct) ∨
      ∃ h a b, s.nextEvent = .hostWrite h a b ∧ s.seq.busy = false ∧ a < 65536 ∧
        t.buffers = Memory.write s.buffers (bufferCell h a) b

/-! ## Encodings and the step -/

/-- R71, R80, R75, R81, R82, R90: a few words written out from the tables, and what they are. Rests on: Token and
request codes are decisions D7, D8 and D9. -/
def Obligations.DecodeWords : Prop :=
  decode (.frame false 0x400000000095#48) = .ok .cmd0 ∧
  decode (.frame false 0x48000001AA87#48) = .ok .cmd8 ∧
  decode (.frame false 0x510000060001#48) = .ok (.cmd17 0x600#32) ∧
  decode (.frame true 0x690040000001#48) = .error .commandArgument ∧
  decode (.frame true 0x694000000001#48) = .ok (.acmd41 0x40000000#32) ∧
  decode (.sentToken 0xFC#8) = .ok .tokenMultiWrite ∧
  decode (.startToken 0xFE#8) = .ok .tokenRxStart ∧
  decode (.response 0x01#8) = .ok (.r1Valid 1#7) ∧
  decode (.dataResponse 0xE5#8) = .ok (.dataRespAccepted 0b111#3) ∧
  decode (.readyByte 0xFF#8) = .ok .ready ∧
  decode (.request 0x200000000030100#59) = .ok (.read 0#8 3#32 1#8) ∧
  decode (.request 0x400000000000007#59) = .ok (.ioctlGetSdstat 0#8) ∧
  decode (.event 1#1) = .ok .tick

/-- Every well-formed instruction, with every operand at every value its encoding admits, decodes back from its
encoding. Rests on: The binary form of a request is decision D7; the port beside the word is log entry 13. -/
def Obligations.DecodeEncode : Prop :=
  ∀ i : Instr, i.WellFormed = true → decode (encode i) = .ok i

/-- The decoder answers only well-formed instructions, and outside the request port (whose unused fields are ignored,
R90) only for the very word the encoder writes. Rests on: The binary form of a request is decision D7. -/
def Obligations.EncodeDecode : Prop :=
  ∀ (sig : Signal) (i : Instr), decode sig = .ok i →
    i.WellFormed = true ∧ ((∀ w, sig ≠ .request w) → encode i = sig)

/-- R86, R88, R75, R82: what no instruction is, rejected by name. Rests on: Decisions D7, D8 and D9. -/
def Obligations.ReservedRejected : Prop :=
  (∀ app w, frameStart w ≠ 0b01#2 → decode (.frame app w) = .error .frameStart) ∧
  (∀ app idx arg, idx ∉ [0#6, 1#6, 8#6, 9#6, 10#6, 12#6, 13#6, 16#6, 17#6, 18#6, 23#6, 24#6, 25#6, 41#6, 55#6, 58#6] →
    decode (.frame app (frameOf idx arg)) = .error .commandIndex) ∧
  (∀ b, b ≠ 0xFE#8 → b ≠ 0xFC#8 → b ≠ 0xFD#8 → decode (.sentToken b) = .error .tokenByte) ∧
  (∀ b, b.getLsbD 7 = true → decode (.response b) = .error .noResponse) ∧
  (∀ b, b ≠ 0xFE#8 → decode (.startToken b) = .error .noStartToken) ∧
  (∀ b, b ≠ 0xFF#8 → decode (.readyByte b) = .error .notReady) ∧
  (∀ b, b.extractLsb' 0 5 ≠ 0b00101#5 → decode (.dataResponse b) = .error .dataRejected) ∧
  (∀ op pdrv sector count code, 5#3 ≤ op →
    decode (.request (requestOf op pdrv sector count code)) = .error .notAnOperation)

/-- A step runs the decoded instruction: when what stands on the port of the agent that moves is an instruction, the
step is that instruction, the move taken from the agenda and, for a request, its buffer handle on the request port.
Rests on: There is no instruction fetch (decision D33); moves, ports and the agenda are the model's (log entries 5, 13
and 18), the buffer handle is log entry 28. -/
def Obligations.StepRunsDecoded : Prop :=
  ∀ (s : State) (sig : Signal) (i : Instr), s.taken.signal s.nextEvent = some sig → decode sig = .ok i →
    step s = exec i s.taken ∧
      s.taken =
        match s.nextEvent with
        | .request h _ => { s.popEvent with requestBuffer := h }
        | _ => s.popEvent

/-- A word of the opcode table, placed by `withFetchWord`, is what the next step runs (log entry 18). Rests on: The
model's own interface (log entries 17 and 18). -/
def Obligations.TableWordRuns : Prop :=
  ∀ (s : State) (nbits w : Nat) (i : Instr), decodeTableWord nbits w = some i →
    step (s.withFetchWord nbits w) = exec i (s.withFetchWord nbits w).taken

/-! ## Whole operations -/

/-- R160: `SEQ.phase` moves only along the edges of the transition table, in the states that `PhaseCoherent` (kept by
every step: StepKeepsPhaseCoherent) allows. Rests on: Decision D14. -/
def Obligations.PhaseTransitions : Prop :=
  ∀ (s t : State) (p : Byte), PhaseCoherent s → step s = .next t → s.nextEvent = .foreground →
    s.seq.op = .initializeDrive p → t.seq.phase ≠ s.seq.phase →
    (s.seq.phase, t.seq.phase) ∈
      [(Phase.reset, Phase.interfaceCheck), (.reset, .failed), (.interfaceCheck, .v2Negotiate),
        (.interfaceCheck, .v1MmcNegotiate), (.interfaceCheck, .failed), (.v2Negotiate, .done 0x04#8),
        (.v2Negotiate, .done 0x0C#8), (.v2Negotiate, .failed), (.v1MmcNegotiate, .blockLengthSet),
        (.v1MmcNegotiate, .failed), (.blockLengthSet, .done 0x01#8), (.blockLengthSet, .done 0x02#8),
        (.blockLengthSet, .failed)] ∧
    (∀ ty, s.seq.phase = .blockLengthSet → t.seq.phase = .done ty → ty = s.seq.ty)

/-- R151, R152, R159, D16: an accepted `CMD0` arms `TMR1` to 1000, and `CMD8` is called with `0x1AA` in state
`InterfaceCheck`; the negotiation poll tests `TMR1` before each send; in the one corner that the spec leaves open the
open parameter decides (log entry 3). Rests on: The loop shape is decision D11, the open parameter D16 (log entry 3),
the arguments D17; the arm and the call are one step (log entry 14). -/
def Obligations.NegotiationPoll : Prop :=
  ∀ s : State, s.nextEvent = .foreground →
    (s.standsAt .armNegotiation →
      step s =
        .next { s.popEvent with
          tmr1 := 1000#16, app := false, idx := 8#6, arg := 0x1AA#32
          seq := { s.seq with phase := .interfaceCheck, site := .main, micro := .issue } }) ∧
    (s.seq.phase = .v2Negotiate ∨ s.seq.phase = .v1MmcNegotiate →
      let failed := { s.popEvent with seq := { s.seq with phase := .failed, ty := 0x00#8, micro := .commit } }
      let acmd41 := s.seq.phase = .v2Negotiate ∨ s.seq.ty = 0x02#8
      (s.standsAt .pollTest → s.tmr1 = 0#16 → step s = .next failed) ∧
      (s.standsAt .pollTest → s.tmr1 ≠ 0#16 →
        step s =
          .next { s.popEvent with
            app := if acmd41 then true else false, idx := if acmd41 then 41#6 else 1#6
            arg := if s.seq.phase = .v2Negotiate then 0x40000000#32 else 0#32
            seq := { s.seq with site := .poll, micro := .issue } }) ∧
      (s.standsAt .pollExit → s.tmr1 ≠ 0#16 ∨ Config.pollSuccessRule = .byResponse →
        step s =
          .next (if s.seq.phase = .v2Negotiate then
              { s.popEvent with
                app := false, idx := 58#6, arg := 0#32, seq := { s.seq with site := .main, micro := .issue } }
            else
              { s.popEvent with
                app := false, idx := 16#6, arg := 512#32
                seq := { s.seq with phase := .blockLengthSet, site := .main, micro := .issue } })) ∧
      (s.standsAt .pollExit → s.tmr1 = 0#16 → Config.pollSuccessRule = .byTimer → step s = .next failed))

/-- R158: the commit and exit of `INITIALIZE`, the tick not intervening. Rests on: The order of the actions is
decision D18; the schedule is log entry 5, the steps log entry 14. -/
def Obligations.InitializeExit : Prop :=
  ∀ (s : State) (p d : Byte), s.standsAt .commit → s.seq.op = .initializeDrive p →
    let run := runFor 6 ((s.letAnswer [d]).letForeground 6)
    let stat := { s.stat with notInitialized := decide (s.seq.ty = 0x00#8) }
    let t := { s with
      ct := s.seq.ty, cs := .deasserted, exchanges := s.exchanges + 1, stat := stat
      result := some (.status stat.toByte), seq := { s.seq with busy := false, micro := .rest } }
    let closing := BusEvent.exchange 0xFF#8 d :: .chipSelect .deasserted :: s.trace
    (s.seq.ty ≠ 0x00#8 → run = .next { t with clk := .fast, trace := .clock .fast :: closing }) ∧
    (s.seq.ty = 0x00#8 → run = .next { t with pwr := .off, trace := .power .off :: closing })

/-- R236 item 3, R216, R221: `INITIALIZE` with a card that never answers: 30 exchanges, no card type, power off. Rests
on: Decisions D10, D18, D19 and D34; script and schedule are log entries 4 and 5. -/
def Obligations.InitializeSilentCard : Prop :=
  ∀ (s : State) (h : Nat), s.seq.busy = false →
    ∃ t, runFor 40
        ((s.letAnswer (List.replicate 30 0xFF#8)).letRequest h (requestOf 1#3 0#8 0#32 0#8 0#8) 39) = .next t ∧
      t.exchanges = s.exchanges + 30 ∧ t.ct = 0x00#8 ∧ t.stat = { s.stat with notInitialized := true } ∧
      t.pwr = .off ∧ t.clk = .slow ∧ t.cs = .deasserted ∧ t.seq.busy = false ∧ t.seq.phase = .failed ∧
      t.result = some (.status t.stat.toByte) ∧ t.buffers = s.buffers ∧
      t.trace =
        .power .off :: .exchange 0xFF#8 0xFF#8 :: .chipSelect .deasserted ::
          (List.replicate 10 (.exchange 0xFF#8 0xFF#8) ++
            exchangesOf [0x40#8, 0x00#8, 0x00#8, 0x00#8, 0x00#8, 0x95#8] (List.replicate 6 0xFF#8) ++
            .exchange 0xFF#8 0xFF#8 :: .exchange 0xFF#8 0xFF#8 :: .chipSelect .asserted ::
              .exchange 0xFF#8 0xFF#8 :: .chipSelect .deasserted ::
              (List.replicate 10 (.exchange 0xFF#8 0xFF#8) ++ .clock .slow :: .power .on :: s.trace))

/-- R173, R197, R170, R171, R185, R210, R220: the exit of `READ`, `WRITE` and `IOCTL`: one `DESELECT`, then for a
transfer `Ok` iff no sector is owed, for an `IOCTL` its `res`, and its value only with `Ok`. The code on the port has
the number of R210. Rests on: The dummy byte is decision D10, the numbers D6; delivery in the same step is log entry
14. -/
def Obligations.TransferExit : Prop :=
  (∀ (s : State) (d : Byte), s.standsAt (.deselectLatch .exit) →
    let run := runFor 2 ((s.letAnswer [d]).letForeground 2)
    let t := { s with
      cs := .deasserted, exchanges := s.exchanges + 1
      trace := .exchange 0xFF#8 d :: .chipSelect .deasserted :: s.trace
      seq := { s.seq with busy := false, micro := .rest } }
    (∀ p sector count h, s.seq.op = .read p sector count h ∨ s.seq.op = .write p sector count h →
      run = .next { t with result := some (.code (if s.seq.owed = 0 then .ok else .error) none) }) ∧
    (∀ p code h, s.seq.op = .ioctl p code h →
      run =
        .next { t with result := some (.code s.seq.res (if s.seq.res = .ok then s.seq.value else none)) })) ∧
  (∀ (c : ResultCode) (v : Option Word32),
    (HostResult.code c v).codeNumber =
      some (match c with
        | .ok => 0#3
        | .error => 1#3
        | .writeProtected => 2#3
        | .notReady => 3#3
        | .paramError => 4#3))

/-- R186, R197, R106: `IOCTL.SYNC` with a card that is ready at once, from its request to its result; and, from the
test of an expired `TMR2`, with a card that stays busy: `Error`, after the `DESELECT` of the failed `SELECT` and the
closing one. Rests on: The dummy bytes are decision D10; script and schedule are log entries 4 and 5, the buffer
handle is log entry 28. -/
def Obligations.SyncRun : Prop :=
  (∀ (s : State) (h : Nat) (sector : Sector) (count d0 d1 : Byte), s.driveReady →
    runFor 7 ((s.letAnswer [d0, 0xFF#8, d1]).letRequest h (requestOf 4#3 0#8 sector count 0#8) 6) =
      .next { s with
        tmr2 := 500#16, cs := .deasserted, exchanges := s.exchanges + 3, requestBuffer := h
        trace :=
          .exchange 0xFF#8 d1 :: .chipSelect .deasserted :: .exchange 0xFF#8 0xFF#8 :: .exchange 0xFF#8 d0 ::
            .chipSelect .asserted :: s.trace
        result := some (.code .ok none)
        seq := { Seq.accepted (.ioctl 0#8 0#8 h) .rest s.seq with busy := false, res := .ok } }) ∧
  (∀ (s : State) (p code d0 d1 : Byte) (h : Nat), s.standsAt (.readyTest (.select .sync)) →
    s.seq.op = .ioctl p code h → s.seq.res = .error → s.tmr2 = 0#16 →
    runFor 5 ((s.letAnswer [d0, d1]).letForeground 5) =
      .next { s with
        cs := .deasserted, exchanges := s.exchanges + 2
        trace :=
          .exchange 0xFF#8 d1 :: .chipSelect .deasserted :: .exchange 0xFF#8 d0 :: .chipSelect .deasserted :: s.trace
        result := some (.code .error none)
        seq := { s.seq with busy := false, micro := .rest } })

/-- R195, R197, R52: `IOCTL.GET_TYPE`, from its request to its result: byte 0 of the buffer it names is `CT`. Rests
on: The dummy byte is decision D10; script and schedule are log entries 4 and 5, the buffer handle is log entry 28. -/
def Obligations.GetTypeRun : Prop :=
  ∀ (s : State) (h : Nat) (sector : Sector) (count d : Byte), s.driveReady → BufferCanonical s →
    ∃ buffers,
      runFor 3 ((s.letAnswer [d]).letRequest h (requestOf 4#3 0#8 sector count 3#8) 2) =
        .next { s with
          buffers := buffers, cs := .deasserted, exchanges := s.exchanges + 1, requestBuffer := h
          trace := .exchange 0xFF#8 d :: .chipSelect .deasserted :: s.trace
          result := some (.code .ok none)
          seq := { Seq.accepted (.ioctl 0#8 3#8 h) .rest s.seq with busy := false, res := .ok } } ∧
      Memory.read buffers (bufferCell h 0) = s.ct ∧
      ∀ c, c ≠ bufferCell h 0 → Memory.read buffers c = Memory.read s.buffers c

/-- R170, R123, R140 and the source's test T6: a single-sector `READ` of a card that accepts and sends the block:
`Ok`, and the 512 bytes unmodified in the host buffer its request names; every other byte of every buffer is as
before. Rests on: Decisions D10 and D11; script and schedule are log entries 4 and 5, the buffer handle is log entry
28. -/
def Obligations.ReadSingleSector : Prop :=
  ∀ (s : State) (h : Nat) (sector : Sector) (d0 d1 d2 c0 c1 : Byte) (frame payload : List Byte),
    s.driveReady → BufferCanonical s → frame.length = 6 → payload.length = 512 →
    ∃ t, runFor 532
        ((s.letAnswer ([d0, d1, 0xFF#8] ++ frame ++ [0x00#8, 0xFE#8] ++ payload ++ [c0, c1, d2])).letRequest h
          (requestOf 2#3 0#8 sector 1#8 0#8) 531) = .next t ∧
      t.result = some (.code .ok none) ∧ t.seq.busy = false ∧ t.cs = .deasserted ∧
      t.exchanges = s.exchanges + 526 ∧
      (∀ k < 512, t.load h k = payload.getD k 0#8) ∧
      (∀ c, c < bufferCell h 0 ∨ bufferCell h 512 ≤ c → Memory.read t.buffers c = Memory.read s.buffers c) ∧
      t.stat = s.stat ∧ t.ct = s.ct ∧ t.clk = s.clk ∧ t.pwr = s.pwr ∧ t.scr = s.scr

/-! ## Invariants -/

/-- Reset meets every invariant. Rests on: The reset values are decision D29 and log entries 6, 7 and 9. -/
def Obligations.ResetMeetsInvariants : Prop :=
  BufferCanonical State.reset ∧ CardTypeLegal State.reset ∧ CardReleased State.reset ∧ ReadyHasType State.reset ∧
    PhaseCoherent State.reset ∧ TransferBounded State.reset ∧ DescriptorEmitted State.reset

/-- R23, R32 items 1 and 5: the canonical form of the buffer and the legal values of `CT` are kept by every step.
Rests on: The canonical form is the model's (log entry 9). -/
def Obligations.StepKeepsBufferAndType : Prop :=
  ∀ s t : State, step s = .next t →
    (BufferCanonical s → BufferCanonical t) ∧ (CardTypeLegal s → CardTypeLegal t)

/-- R32 item 3: `CS` is deasserted whenever `SEQ` is Idle. Rests on: The spec marks the rule as its own inference (R32
item 3). -/
def Obligations.StepKeepsCardReleased : Prop :=
  ∀ s t : State, CardReleased s → step s = .next t → CardReleased t

/-- R32 item 4: an initialized drive that is Idle has a card type. Rests on: The spec marks the rule as its own
inference (R32 item 4); decision D18. -/
def Obligations.StepKeepsReadyHasType : Prop :=
  (∀ s t : State, ReadyHasType s → step s = .next t → ReadyHasType t) ∧
  (∀ s : State, ReadyHasType s → s.driveReady → s.ct ≠ 0x00#8)

/-- R158, R160: `ty` is a card type in `Done(ty)`, `0x00` in `Failed`, and SD-v1 or MMC from their poll to `CMD16`;
with what makes that so. -/
def Obligations.StepKeepsPhaseCoherent : Prop :=
  ∀ s t : State, PhaseCoherent s → step s = .next t → PhaseCoherent t

/-- R52, R142, R170 to R172: from a state whose transfer is within bounds no step leaves the bounds, and none faults
unless the host itself writes beyond its buffer. Rests on: The bound is the refusal of counts above 128 (decision D24,
log entry 11) and the buffer size of log entry 20. -/
def Obligations.StepKeepsTransferBounded : Prop :=
  ∀ s : State, TransferBounded s →
    (∀ t, step s = .next t → TransferBounded t) ∧
    ((∀ h a b, s.nextEvent = .hostWrite h a b → a < 65536) → NoFault (step s))

/-- R88, R103, R223: the foreground never gets stuck: with its transfer within bounds and its descriptor one of the
sixteen commands, its move always ends in a next state, whose descriptor is again one of them. Rests on: R88 is marked
by the spec as its own inference; exchanges always complete (decision D36, log entry 26). -/
def Obligations.ForegroundProgresses : Prop :=
  (∀ s t : State, DescriptorEmitted s → step s = .next t → DescriptorEmitted t) ∧
  (∀ s : State, TransferBounded s → DescriptorEmitted s → s.nextEvent = .foreground → ∃ t, step s = .next t)
end

