-- ==== Sys2Proof/Laws/Encoding.lean ====
section
/-! SUPPORT. The fields of an encoded word are the fields it was made from, and a word is made of its fields. -/

namespace Sys2Proof

/-! ### The ranges the widths of R8 give -/

theorem index_toNat_lt (idx : Index) : idx.toNat < 64 := idx.isLt

theorem argument_toNat_lt (arg : Argument) : arg.toNat < 2 ^ 32 := arg.isLt

theorem sector_toNat_lt (sector : Sector) : sector.toNat < 2 ^ 32 := sector.isLt

theorem counter_toNat_lt (t : Counter) : t.toNat < 65536 := t.isLt

section Frame

variable (idx : Index) (arg : Argument)

@[simp] theorem frameStart_frameOf : frameStart (frameOf idx arg) = 0b01#2 := by
  change BitVec.extractLsb' (n := 2 + 6 + 32 + 8) 46 2 (0b01#2 ++ idx ++ arg ++ crcByte idx) = _
  ext i hi
  simp only [BitVec.getElem_extractLsb', BitVec.getLsbD_append]
  interval_cases i <;> simp

@[simp] theorem frameIndex_frameOf : frameIndex (frameOf idx arg) = idx := by
  change BitVec.extractLsb' (n := 2 + 6 + 32 + 8) 40 6 (0b01#2 ++ idx ++ arg ++ crcByte idx) = _
  ext i hi
  have h1 : ¬ (40 + i < 8) := by omega
  have h2 : ¬ (40 + i - 8 < 32) := by omega
  have h3 : 40 + i - 8 - 32 < 6 := by omega
  have h4 : 40 + i - 8 - 32 = i := by omega
  simp only [BitVec.getElem_extractLsb', BitVec.getLsbD_append]
  simp [BitVec.getLsbD_eq_getElem, h1, h2, h4, hi]

@[simp] theorem frameArg_frameOf : frameArg (frameOf idx arg) = arg := by
  change BitVec.extractLsb' (n := 2 + 6 + 32 + 8) 8 32 (0b01#2 ++ idx ++ arg ++ crcByte idx) = _
  ext i hi
  have h1 : ¬ (8 + i < 8) := by omega
  have h4 : 8 + i - 8 = i := by omega
  simp only [BitVec.getElem_extractLsb', BitVec.getLsbD_append]
  simp [BitVec.getLsbD_eq_getElem, hi]

@[simp] theorem frameCrc_frameOf : frameCrc (frameOf idx arg) = crcByte idx := by
  change BitVec.extractLsb' (n := 2 + 6 + 32 + 8) 0 8 (0b01#2 ++ idx ++ arg ++ crcByte idx) = _
  ext i hi
  simp only [BitVec.getElem_extractLsb', BitVec.getLsbD_append]
  simp [BitVec.getLsbD_eq_getElem, hi]

/-- A frame with the start bits and the CRC byte of its index is the frame of its index and argument. -/
theorem frameOf_fields (w : FrameWord) (hs : frameStart w = 0b01#2) (hc : frameCrc w = crcByte (frameIndex w)) :
    frameOf (frameIndex w) (frameArg w) = w := by
  rw [frameOf, ← hc, ← hs]
  simp only [frameStart, frameCrc, frameIndex, frameArg, Config.idxWidth, Config.argWidth]
  ext i hi
  simp only [BitVec.getElem_append, BitVec.getElem_extractLsb']
  split
  · simp [BitVec.getLsbD_eq_getElem hi]
  · split
    · rename_i h1 h2
      have : 8 + (i - 8) = i := by omega
      simp [this, BitVec.getLsbD_eq_getElem hi]
    · split
      · rename_i h1 h2 h3
        have : 40 + (i - 8 - 32) = i := by omega
        simp [this, BitVec.getLsbD_eq_getElem hi]
      · rename_i h1 h2 h3
        have : 46 + (i - 8 - 32 - 6) = i := by omega
        simp [this, BitVec.getLsbD_eq_getElem hi]

end Frame

section Request

variable (op : BitVec 3) (pdrv : Byte) (sector : Sector) (count code : Byte)

@[simp] theorem requestOp_requestOf : requestOp (requestOf op pdrv sector count code) = op := by
  change BitVec.extractLsb' (n := 3 + 8 + 32 + 8 + 8) 56 3 (op ++ pdrv ++ sector ++ count ++ code) = _
  ext i hi
  have h1 : ¬ (56 + i < 8) := by omega
  have h2 : ¬ (56 + i - 8 < 8) := by omega
  have h3 : ¬ (56 + i - 8 - 8 < 32) := by omega
  have h4 : ¬ (56 + i - 8 - 8 - 32 < 8) := by omega
  have h5 : 56 + i - 8 - 8 - 32 - 8 = i := by omega
  simp only [BitVec.getElem_extractLsb', BitVec.getLsbD_append]
  simp [BitVec.getLsbD_eq_getElem, h1, h2, h3, h4, hi, h5]

@[simp] theorem requestPdrv_requestOf : requestPdrv (requestOf op pdrv sector count code) = pdrv := by
  change BitVec.extractLsb' (n := 3 + 8 + 32 + 8 + 8) 48 8 (op ++ pdrv ++ sector ++ count ++ code) = _
  ext i hi
  have h1 : ¬ (48 + i < 8) := by omega
  have h2 : ¬ (48 + i - 8 < 8) := by omega
  have h3 : ¬ (48 + i - 8 - 8 < 32) := by omega
  have h5 : 48 + i - 8 - 8 - 32 = i := by omega
  simp only [BitVec.getElem_extractLsb', BitVec.getLsbD_append]
  simp [BitVec.getLsbD_eq_getElem, h1, h2, h3, hi, h5]

@[simp] theorem requestSector_requestOf : requestSector (requestOf op pdrv sector count code) = sector := by
  change BitVec.extractLsb' (n := 3 + 8 + 32 + 8 + 8) 16 32 (op ++ pdrv ++ sector ++ count ++ code) = _
  ext i hi
  have h1 : ¬ (16 + i < 8) := by omega
  have h2 : ¬ (16 + i - 8 < 8) := by omega
  have h5 : 16 + i - 8 - 8 = i := by omega
  simp only [BitVec.getElem_extractLsb', BitVec.getLsbD_append]
  simp [BitVec.getLsbD_eq_getElem, h1, h2, hi, h5]

@[simp] theorem requestCount_requestOf : requestCount (requestOf op pdrv sector count code) = count := by
  change BitVec.extractLsb' (n := 3 + 8 + 32 + 8 + 8) 8 8 (op ++ pdrv ++ sector ++ count ++ code) = _
  ext i hi
  simp only [BitVec.getElem_extractLsb', BitVec.getLsbD_append]
  simp [BitVec.getLsbD_eq_getElem, hi]

@[simp] theorem requestCode_requestOf : requestCode (requestOf op pdrv sector count code) = code := by
  change BitVec.extractLsb' (n := 3 + 8 + 32 + 8 + 8) 0 8 (op ++ pdrv ++ sector ++ count ++ code) = _
  ext i hi
  simp only [BitVec.getElem_extractLsb', BitVec.getLsbD_append]
  simp [BitVec.getLsbD_eq_getElem, hi]

end Request

/-! ### The one-byte patterns -/

@[simp] theorem responseByte_high (r : BitVec 7) : (responseByte r).extractLsb' 7 1 = 0#1 := by
  revert r
  decide

@[simp] theorem responseByte_low (r : BitVec 7) : (responseByte r).extractLsb' 0 7 = r := by
  revert r
  decide

@[simp] theorem dataResponseByte_masked (u : BitVec 3) :
    dataResponseByte u &&& Config.dataRespMask = Config.dataRespAccept := by
  revert u
  decide

@[simp] theorem dataResponseByte_low (u : BitVec 3) : (dataResponseByte u).extractLsb' 0 5 = 0b00101#5 := by
  revert u
  decide

/-- The mask test is the test of the low five bits (R8 "low 5 bits must equal 0b00101"). -/
theorem masked_iff_low (b : Byte) :
    b &&& Config.dataRespMask = Config.dataRespAccept ↔ b.extractLsb' 0 5 = 0b00101#5 := by
  revert b
  decide

@[simp] theorem dataResponseByte_high (u : BitVec 3) : (dataResponseByte u).extractLsb' 5 3 = u := by
  revert u
  decide

/-- A byte with bit 7 clear is the response byte of its low seven bits. -/
theorem responseByte_of_high {b : Byte} (h : b.extractLsb' 7 1 = 0#1) : responseByte (b.extractLsb' 0 7) = b := by
  revert b
  decide

/-- A byte whose low five bits are `0b00101` is the data-response byte of its high three. -/
theorem dataResponseByte_of_low {b : Byte} (h : b.extractLsb' 0 5 = 0b00101#5) :
    dataResponseByte (b.extractLsb' 5 3) = b := by
  revert b
  decide

end Sys2Proof
end

