-- ==== Sys2Proof/Laws/Memory.lean ====
section
/-! SUPPORT. The laws of the host buffers: a read after a write, and the canonical form is kept. -/

namespace Sys2Proof.Machine.Memory

/-- A lower bound may be lowered. -/
theorem wfFrom_mono {lo lo' : Nat} (h : lo' ≤ lo) {m : List Host.Cell} (w : wfFrom lo m = true) :
    wfFrom lo' m = true := by
  cases m with
  | nil => rfl
  | cons c rest =>
    obtain ⟨k, v⟩ := c
    simp only [wfFrom, Bool.and_eq_true, decide_eq_true_eq] at w ⊢
    exact ⟨⟨Nat.le_trans h w.1.1, w.1.2⟩, w.2⟩

/-- Below the bound of a canonical memory nothing is listed. -/
theorem read_below {lo a : Nat} (h : a < lo) {m : List Host.Cell} (w : wfFrom lo m = true) : read m a = unlisted := by
  induction m generalizing lo with
  | nil => rfl
  | cons c rest ih =>
    obtain ⟨k, v⟩ := c
    simp only [wfFrom, Bool.and_eq_true, decide_eq_true_eq] at w
    rw [read, if_neg (by omega)]
    exact ih (lo := k + 1) (by omega) w.2

/-- The byte written is the byte read back, in a canonical memory. -/
theorem read_write_same {lo : Nat} {m : List Host.Cell} (w : wfFrom lo m = true) (a : Nat) (b : Byte) :
    read (write m a b) a = b := by
  induction m generalizing lo with
  | nil =>
    by_cases hb : b = unlisted <;> simp [write, read, hb]
  | cons c rest ih =>
    obtain ⟨k, v⟩ := c
    simp only [wfFrom, Bool.and_eq_true, decide_eq_true_eq] at w
    obtain ⟨⟨hk, hv⟩, hr⟩ := w
    rw [write]
    split
    · next hlt =>
      split
      · next hb =>
        rw [read, if_neg (by omega), hb]
        exact read_below (lo := k + 1) (by omega) hr
      · simp [read]
    · split
      · next hak =>
        split
        · next hb =>
          rw [hb]
          exact read_below (lo := k + 1) (by omega) hr
        · simp [read]
      · rw [read, if_neg (by omega)]
        exact ih hr

/-- Every other offset reads as before. -/
theorem read_write_other {m : List Host.Cell} {lo : Nat} (w : wfFrom lo m = true) {a x : Nat} (b : Byte) (h : x ≠ a) :
    read (write m a b) x = read m x := by
  induction m generalizing lo with
  | nil =>
    by_cases hb : b = unlisted
    · simp [write, hb]
    · simp [write, read, hb, Ne.symm h]
  | cons c rest ih =>
    obtain ⟨k, v⟩ := c
    simp only [wfFrom, Bool.and_eq_true, decide_eq_true_eq] at w
    obtain ⟨⟨hk, hv⟩, hr⟩ := w
    rw [write]
    split
    · split
      · rfl
      · rw [read, if_neg (Ne.symm h)]
    · split
      · next hak =>
        split
        · rw [read, if_neg (by omega)]
        · rw [read, if_neg (Ne.symm h), read, if_neg (by omega)]
      · rw [read, read, ih hr]

/-- A write keeps the canonical form. -/
theorem wfFrom_write {m : List Host.Cell} {lo a : Nat} (b : Byte) (h : lo ≤ a) (w : wfFrom lo m = true) :
    wfFrom lo (write m a b) = true := by
  induction m generalizing lo with
  | nil =>
    by_cases hb : b = unlisted <;> simp [write, wfFrom, hb, h]
  | cons c rest ih =>
    obtain ⟨k, v⟩ := c
    have w0 := w
    simp only [wfFrom, Bool.and_eq_true, decide_eq_true_eq] at w
    obtain ⟨⟨hk, hv⟩, hr⟩ := w
    rw [write]
    split
    · next hlt =>
      split
      · exact w0
      · next hb => simp [wfFrom, h, hb, hv, hr]; omega
    · split
      · next hak =>
        subst hak
        split
        · exact wfFrom_mono (by omega) hr
        · next hb => simp [wfFrom, h, hb, hr]
      · next h1 h2 =>
        have := ih (lo := k + 1) (by omega) hr
        simp [wfFrom, hk, hv, this]

/-- A write keeps the canonical form of all the buffers. -/
theorem wf_write {m : List Host.Cell} (a : Nat) (b : Byte) (w : wf m = true) : wf (write m a b) = true :=
  wfFrom_write b (Nat.zero_le a) w

theorem wf_nil : wf [] = true := rfl

/-- Two bytes of existing offsets stand in one cell only if they are one byte of one buffer. -/
theorem bufferCell_inj {h k : Nat} {o x : Nat} (ho : o < Config.bufferSize) (hx : x < Config.bufferSize) :
    bufferCell h o = bufferCell k x ↔ h = k ∧ o = x := by
  simp only [bufferCell, Config.bufferSize] at *
  constructor
  · intro he
    omega
  · rintro ⟨rfl, rfl⟩
    rfl

/-- `MemWrite` then `MemRead` of the same byte. -/
theorem load_store_same (s : State) (w : wf s.buffers = true) (h : Nat) (o : Nat) (b : Byte) :
    (s.store h o b).load h o = b :=
  read_write_same w _ b

/-- `MemWrite` leaves every other byte of that buffer, and every byte of another buffer, alone. -/
theorem load_store_other (s : State) (w : wf s.buffers = true) {h k : Nat} {o x : Nat} (b : Byte)
    (ho : o < Config.bufferSize) (hx : x < Config.bufferSize) (hne : k ≠ h ∨ x ≠ o) :
    (s.store h o b).load k x = s.load k x :=
  read_write_other w b (by rw [Ne, bufferCell_inj hx ho]; omega)

end Sys2Proof.Machine.Memory
end

