-- ==== Sys2Proof/Laws/PerInstr.lean ====
section
/-! SUPPORT. Laws that have one case per instruction. `TableFields` says that the encoded word of an instruction has the
fields its row of spec/opcode_table.json lists (its "source_fields"), on the port where that row's word stands. -/

namespace Sys2Proof.Laws.TableFields

/-- A command frame with these fields (R71, R73, R87). -/
def FrameFields (sig : Signal) (app : Bool) (idx : Index) (arg : Argument) (crc : Byte) : Prop :=
  ∃ w, sig = .frame app w ∧ frameStart w = 0b01#2 ∧ frameIndex w = idx ∧ frameArg w = arg ∧ frameCrc w = crc

/-- A host request with this operation and drive (R90). -/
def RequestFields (sig : Signal) (op : BitVec 3) (pdrv : Byte) : Prop :=
  ∃ w, sig = .request w ∧ requestOp w = op ∧ requestPdrv w = pdrv

/-- A transfer request (R90). -/
def TransferFields (sig : Signal) (op : BitVec 3) (pdrv : Byte) (sector : Sector) (count : Byte) : Prop :=
  ∃ w, sig = .request w ∧ requestOp w = op ∧ requestPdrv w = pdrv ∧ requestSector w = sector ∧ requestCount w = count

/-- A control request (R91). -/
def ControlFields (sig : Signal) (pdrv code : Byte) : Prop :=
  ∃ w, sig = .request w ∧ requestOp w = 4#3 ∧ requestPdrv w = pdrv ∧ requestCode w = code

/-- The fields of the row of each instruction. -/
def Statement : Instr → Prop
  | .cmd0 => FrameFields (encode .cmd0) false 0#6 0#32 0x95#8
  | .cmd1 => FrameFields (encode .cmd1) false 1#6 0#32 0x01#8
  | .cmd8 => FrameFields (encode .cmd8) false 8#6 0x000001AA#32 0x87#8
  | .cmd9 => FrameFields (encode .cmd9) false 9#6 0#32 0x01#8
  | .cmd10 => FrameFields (encode .cmd10) false 10#6 0#32 0x01#8
  | .cmd12 => FrameFields (encode .cmd12) false 12#6 0#32 0x01#8
  | .acmd13 => FrameFields (encode .acmd13) true 13#6 0#32 0x01#8
  | .cmd16 => FrameFields (encode .cmd16) false 16#6 0x00000200#32 0x01#8
  | .cmd17 addr => FrameFields (encode (.cmd17 addr)) false 17#6 addr 0x01#8
  | .cmd18 addr => FrameFields (encode (.cmd18 addr)) false 18#6 addr 0x01#8
  | .acmd23 count => FrameFields (encode (.acmd23 count)) true 23#6 count 0x01#8
  | .cmd24 addr => FrameFields (encode (.cmd24 addr)) false 24#6 addr 0x01#8
  | .cmd25 addr => FrameFields (encode (.cmd25 addr)) false 25#6 addr 0x01#8
  | .acmd41 arg => FrameFields (encode (.acmd41 arg)) true 41#6 arg 0x01#8
  | .cmd55 => FrameFields (encode .cmd55) false 55#6 0#32 0x01#8
  | .cmd58 => FrameFields (encode .cmd58) false 58#6 0#32 0x01#8
  | .tokenRxStart => encode .tokenRxStart = .startToken 0xFE#8
  | .tokenStartBlock => encode .tokenStartBlock = .sentToken 0xFE#8
  | .tokenMultiWrite => encode .tokenMultiWrite = .sentToken 0xFC#8
  | .tokenStopTran => encode .tokenStopTran = .sentToken 0xFD#8
  | .r1Valid r => ∃ b, encode (.r1Valid r) = .response b ∧ b.extractLsb' 7 1 = 0#1 ∧ b.extractLsb' 0 7 = r
  | .dataRespAccepted ignored =>
    ∃ b, encode (.dataRespAccepted ignored) = .dataResponse b ∧ b.extractLsb' 0 5 = 0b00101#5 ∧ b.extractLsb' 5 3 = ignored
  | .ready => encode .ready = .readyByte 0xFF#8
  | .status pdrv => RequestFields (encode (.status pdrv)) 0#3 pdrv
  | .initializeDrive pdrv => RequestFields (encode (.initializeDrive pdrv)) 1#3 pdrv
  | .read pdrv sector count => TransferFields (encode (.read pdrv sector count)) 2#3 pdrv sector count
  | .write pdrv sector count => TransferFields (encode (.write pdrv sector count)) 3#3 pdrv sector count
  | .ioctlSync pdrv => ControlFields (encode (.ioctlSync pdrv)) pdrv 0#8
  | .ioctlGetSectorCount pdrv => ControlFields (encode (.ioctlGetSectorCount pdrv)) pdrv 1#8
  | .ioctlGetBlockSize pdrv => ControlFields (encode (.ioctlGetBlockSize pdrv)) pdrv 2#8
  | .ioctlGetType pdrv => ControlFields (encode (.ioctlGetType pdrv)) pdrv 3#8
  | .ioctlGetCsd pdrv => ControlFields (encode (.ioctlGetCsd pdrv)) pdrv 4#8
  | .ioctlGetCid pdrv => ControlFields (encode (.ioctlGetCid pdrv)) pdrv 5#8
  | .ioctlGetOcr pdrv => ControlFields (encode (.ioctlGetOcr pdrv)) pdrv 6#8
  | .ioctlGetSdstat pdrv => ControlFields (encode (.ioctlGetSdstat pdrv)) pdrv 7#8
  | .ioctlUnrecognized pdrv code => ControlFields (encode (.ioctlUnrecognized pdrv code)) pdrv code
  | .tick => encode .tick = .event 1#1

theorem frameFields (app : Bool) (idx : Index) (arg : Argument) :
    FrameFields (.frame app (frameOf idx arg)) app idx arg (crcByte idx) :=
  ⟨_, rfl, by simp, by simp, by simp, by simp⟩

theorem controlFields (pdrv code : Byte) : ControlFields (ioctlRequest pdrv code) pdrv code :=
  ⟨_, rfl, by simp, by simp, by simp⟩

theorem cmd0 : Statement .cmd0 := frameFields _ _ _
theorem cmd1 : Statement .cmd1 := frameFields _ _ _
theorem cmd8 : Statement .cmd8 := frameFields _ _ _
theorem cmd9 : Statement .cmd9 := frameFields _ _ _
theorem cmd10 : Statement .cmd10 := frameFields _ _ _
theorem cmd12 : Statement .cmd12 := frameFields _ _ _
theorem acmd13 : Statement .acmd13 := frameFields _ _ _
theorem cmd16 : Statement .cmd16 := frameFields _ _ _
theorem cmd17 (addr : Argument) : Statement (.cmd17 addr) := frameFields _ _ _
theorem cmd18 (addr : Argument) : Statement (.cmd18 addr) := frameFields _ _ _
theorem acmd23 (count : Argument) : Statement (.acmd23 count) := frameFields _ _ _
theorem cmd24 (addr : Argument) : Statement (.cmd24 addr) := frameFields _ _ _
theorem cmd25 (addr : Argument) : Statement (.cmd25 addr) := frameFields _ _ _
theorem acmd41 (arg : Argument) : Statement (.acmd41 arg) := frameFields _ _ _
theorem cmd55 : Statement .cmd55 := frameFields _ _ _
theorem cmd58 : Statement .cmd58 := frameFields _ _ _
theorem tokenRxStart : Statement .tokenRxStart := rfl
theorem tokenStartBlock : Statement .tokenStartBlock := rfl
theorem tokenMultiWrite : Statement .tokenMultiWrite := rfl
theorem tokenStopTran : Statement .tokenStopTran := rfl
theorem r1Valid (r : BitVec 7) : Statement (.r1Valid r) := ⟨_, rfl, by simp, by simp⟩
theorem dataRespAccepted (ignored : BitVec 3) : Statement (.dataRespAccepted ignored) := ⟨_, rfl, by simp, by simp⟩
theorem ready : Statement .ready := rfl
theorem status (pdrv : Byte) : Statement (.status pdrv) := ⟨_, rfl, by simp, by simp⟩
theorem initializeDrive (pdrv : Byte) : Statement (.initializeDrive pdrv) := ⟨_, rfl, by simp, by simp⟩
theorem read (pdrv : Byte) (sector : Sector) (count : Byte) : Statement (.read pdrv sector count) :=
  ⟨_, rfl, by simp, by simp, by simp, by simp⟩
theorem write (pdrv : Byte) (sector : Sector) (count : Byte) : Statement (.write pdrv sector count) :=
  ⟨_, rfl, by simp, by simp, by simp, by simp⟩
theorem ioctlSync (pdrv : Byte) : Statement (.ioctlSync pdrv) := controlFields _ _
theorem ioctlGetSectorCount (pdrv : Byte) : Statement (.ioctlGetSectorCount pdrv) := controlFields _ _
theorem ioctlGetBlockSize (pdrv : Byte) : Statement (.ioctlGetBlockSize pdrv) := controlFields _ _
theorem ioctlGetType (pdrv : Byte) : Statement (.ioctlGetType pdrv) := controlFields _ _
theorem ioctlGetCsd (pdrv : Byte) : Statement (.ioctlGetCsd pdrv) := controlFields _ _
theorem ioctlGetCid (pdrv : Byte) : Statement (.ioctlGetCid pdrv) := controlFields _ _
theorem ioctlGetOcr (pdrv : Byte) : Statement (.ioctlGetOcr pdrv) := controlFields _ _
theorem ioctlGetSdstat (pdrv : Byte) : Statement (.ioctlGetSdstat pdrv) := controlFields _ _
theorem ioctlUnrecognized (pdrv code : Byte) : Statement (.ioctlUnrecognized pdrv code) := controlFields _ _
theorem tick : Statement .tick := rfl

end Sys2Proof.Laws.TableFields
end

