-- ==== Sys2Proof/Laws/State.lean ====
section
/-! SUPPORT. One lemma per field per update of State, each true by unfolding, so that no later proof unfolds a record
update. -/

namespace Sys2Proof.Machine.State

variable (s : State)

/-! ### goto -/

@[simp] theorem goto_stat (m : Micro) : (s.goto m).stat = s.stat := rfl
@[simp] theorem goto_ct (m : Micro) : (s.goto m).ct = s.ct := rfl
@[simp] theorem goto_tmr1 (m : Micro) : (s.goto m).tmr1 = s.tmr1 := rfl
@[simp] theorem goto_tmr2 (m : Micro) : (s.goto m).tmr2 = s.tmr2 := rfl
@[simp] theorem goto_cs (m : Micro) : (s.goto m).cs = s.cs := rfl
@[simp] theorem goto_clk (m : Micro) : (s.goto m).clk = s.clk := rfl
@[simp] theorem goto_pwr (m : Micro) : (s.goto m).pwr = s.pwr := rfl
@[simp] theorem goto_app (m : Micro) : (s.goto m).app = s.app := rfl
@[simp] theorem goto_idx (m : Micro) : (s.goto m).idx = s.idx := rfl
@[simp] theorem goto_arg (m : Micro) : (s.goto m).arg = s.arg := rfl
@[simp] theorem goto_resp (m : Micro) : (s.goto m).resp = s.resp := rfl
@[simp] theorem goto_scr (m : Micro) : (s.goto m).scr = s.scr := rfl
@[simp] theorem goto_n (m : Micro) : (s.goto m).n = s.n := rfl
@[simp] theorem goto_seq (m : Micro) : (s.goto m).seq = { s.seq with micro := m } := rfl
@[simp] theorem goto_cdPresent (m : Micro) : (s.goto m).cdPresent = s.cdPresent := rfl
@[simp] theorem goto_wpActive (m : Micro) : (s.goto m).wpActive = s.wpActive := rfl
@[simp] theorem goto_requestBuffer (m : Micro) : (s.goto m).requestBuffer = s.requestBuffer := rfl
@[simp] theorem goto_result (m : Micro) : (s.goto m).result = s.result := rfl
@[simp] theorem goto_buffers (m : Micro) : (s.goto m).buffers = s.buffers := rfl
@[simp] theorem goto_trace (m : Micro) : (s.goto m).trace = s.trace := rfl
@[simp] theorem goto_card (m : Micro) : (s.goto m).card = s.card := rfl
@[simp] theorem goto_exchanges (m : Micro) : (s.goto m).exchanges = s.exchanges := rfl
@[simp] theorem goto_agenda (m : Micro) : (s.goto m).agenda = s.agenda := rfl
@[simp] theorem goto_draws (m : Micro) : (s.goto m).draws = s.draws := rfl
@[simp] theorem goto_frees (m : Micro) : (s.goto m).frees = s.frees := rfl

/-! ### exchange -/

@[simp] theorem exchange_stat (tx rx : Byte) : (s.exchange tx rx).stat = s.stat := rfl
@[simp] theorem exchange_ct (tx rx : Byte) : (s.exchange tx rx).ct = s.ct := rfl
@[simp] theorem exchange_tmr1 (tx rx : Byte) : (s.exchange tx rx).tmr1 = s.tmr1 := rfl
@[simp] theorem exchange_tmr2 (tx rx : Byte) : (s.exchange tx rx).tmr2 = s.tmr2 := rfl
@[simp] theorem exchange_cs (tx rx : Byte) : (s.exchange tx rx).cs = s.cs := rfl
@[simp] theorem exchange_clk (tx rx : Byte) : (s.exchange tx rx).clk = s.clk := rfl
@[simp] theorem exchange_pwr (tx rx : Byte) : (s.exchange tx rx).pwr = s.pwr := rfl
@[simp] theorem exchange_app (tx rx : Byte) : (s.exchange tx rx).app = s.app := rfl
@[simp] theorem exchange_idx (tx rx : Byte) : (s.exchange tx rx).idx = s.idx := rfl
@[simp] theorem exchange_arg (tx rx : Byte) : (s.exchange tx rx).arg = s.arg := rfl
@[simp] theorem exchange_resp (tx rx : Byte) : (s.exchange tx rx).resp = s.resp := rfl
@[simp] theorem exchange_scr (tx rx : Byte) : (s.exchange tx rx).scr = s.scr := rfl
@[simp] theorem exchange_n (tx rx : Byte) : (s.exchange tx rx).n = s.n := rfl
@[simp] theorem exchange_seq (tx rx : Byte) : (s.exchange tx rx).seq = s.seq := rfl
@[simp] theorem exchange_cdPresent (tx rx : Byte) : (s.exchange tx rx).cdPresent = s.cdPresent := rfl
@[simp] theorem exchange_wpActive (tx rx : Byte) : (s.exchange tx rx).wpActive = s.wpActive := rfl
@[simp] theorem exchange_requestBuffer (tx rx : Byte) : (s.exchange tx rx).requestBuffer = s.requestBuffer := rfl
@[simp] theorem exchange_result (tx rx : Byte) : (s.exchange tx rx).result = s.result := rfl
@[simp] theorem exchange_buffers (tx rx : Byte) : (s.exchange tx rx).buffers = s.buffers := rfl
@[simp] theorem exchange_trace (tx rx : Byte) : (s.exchange tx rx).trace = .exchange tx rx :: s.trace := rfl
@[simp] theorem exchange_card (tx rx : Byte) : (s.exchange tx rx).card = s.card.tail := rfl
@[simp] theorem exchange_exchanges (tx rx : Byte) : (s.exchange tx rx).exchanges = s.exchanges + 1 := rfl
@[simp] theorem exchange_agenda (tx rx : Byte) : (s.exchange tx rx).agenda = s.agenda := rfl
@[simp] theorem exchange_draws (tx rx : Byte) : (s.exchange tx rx).draws = s.draws := rfl
@[simp] theorem exchange_frees (tx rx : Byte) : (s.exchange tx rx).frees = s.frees := rfl

/-! ### send -/

@[simp] theorem send_stat (tx : Byte) : (s.send tx).stat = s.stat := rfl
@[simp] theorem send_ct (tx : Byte) : (s.send tx).ct = s.ct := rfl
@[simp] theorem send_tmr1 (tx : Byte) : (s.send tx).tmr1 = s.tmr1 := rfl
@[simp] theorem send_tmr2 (tx : Byte) : (s.send tx).tmr2 = s.tmr2 := rfl
@[simp] theorem send_cs (tx : Byte) : (s.send tx).cs = s.cs := rfl
@[simp] theorem send_clk (tx : Byte) : (s.send tx).clk = s.clk := rfl
@[simp] theorem send_pwr (tx : Byte) : (s.send tx).pwr = s.pwr := rfl
@[simp] theorem send_app (tx : Byte) : (s.send tx).app = s.app := rfl
@[simp] theorem send_idx (tx : Byte) : (s.send tx).idx = s.idx := rfl
@[simp] theorem send_arg (tx : Byte) : (s.send tx).arg = s.arg := rfl
@[simp] theorem send_resp (tx : Byte) : (s.send tx).resp = s.resp := rfl
@[simp] theorem send_scr (tx : Byte) : (s.send tx).scr = s.scr := rfl
@[simp] theorem send_n (tx : Byte) : (s.send tx).n = s.n := rfl
@[simp] theorem send_seq (tx : Byte) : (s.send tx).seq = s.seq := rfl
@[simp] theorem send_cdPresent (tx : Byte) : (s.send tx).cdPresent = s.cdPresent := rfl
@[simp] theorem send_wpActive (tx : Byte) : (s.send tx).wpActive = s.wpActive := rfl
@[simp] theorem send_requestBuffer (tx : Byte) : (s.send tx).requestBuffer = s.requestBuffer := rfl
@[simp] theorem send_result (tx : Byte) : (s.send tx).result = s.result := rfl
@[simp] theorem send_buffers (tx : Byte) : (s.send tx).buffers = s.buffers := rfl
@[simp] theorem send_trace (tx : Byte) : (s.send tx).trace = .exchange tx s.reply :: s.trace := rfl
@[simp] theorem send_card (tx : Byte) : (s.send tx).card = s.card.tail := rfl
@[simp] theorem send_exchanges (tx : Byte) : (s.send tx).exchanges = s.exchanges + 1 := rfl
@[simp] theorem send_agenda (tx : Byte) : (s.send tx).agenda = s.agenda := rfl
@[simp] theorem send_draws (tx : Byte) : (s.send tx).draws = s.draws := rfl
@[simp] theorem send_frees (tx : Byte) : (s.send tx).frees = s.frees := rfl

/-! ### setCs -/

@[simp] theorem setCs_stat (c : ChipSelect) : (s.setCs c).stat = s.stat := rfl
@[simp] theorem setCs_ct (c : ChipSelect) : (s.setCs c).ct = s.ct := rfl
@[simp] theorem setCs_tmr1 (c : ChipSelect) : (s.setCs c).tmr1 = s.tmr1 := rfl
@[simp] theorem setCs_tmr2 (c : ChipSelect) : (s.setCs c).tmr2 = s.tmr2 := rfl
@[simp] theorem setCs_cs (c : ChipSelect) : (s.setCs c).cs = c := rfl
@[simp] theorem setCs_clk (c : ChipSelect) : (s.setCs c).clk = s.clk := rfl
@[simp] theorem setCs_pwr (c : ChipSelect) : (s.setCs c).pwr = s.pwr := rfl
@[simp] theorem setCs_app (c : ChipSelect) : (s.setCs c).app = s.app := rfl
@[simp] theorem setCs_idx (c : ChipSelect) : (s.setCs c).idx = s.idx := rfl
@[simp] theorem setCs_arg (c : ChipSelect) : (s.setCs c).arg = s.arg := rfl
@[simp] theorem setCs_resp (c : ChipSelect) : (s.setCs c).resp = s.resp := rfl
@[simp] theorem setCs_scr (c : ChipSelect) : (s.setCs c).scr = s.scr := rfl
@[simp] theorem setCs_n (c : ChipSelect) : (s.setCs c).n = s.n := rfl
@[simp] theorem setCs_seq (c : ChipSelect) : (s.setCs c).seq = s.seq := rfl
@[simp] theorem setCs_cdPresent (c : ChipSelect) : (s.setCs c).cdPresent = s.cdPresent := rfl
@[simp] theorem setCs_wpActive (c : ChipSelect) : (s.setCs c).wpActive = s.wpActive := rfl
@[simp] theorem setCs_requestBuffer (c : ChipSelect) : (s.setCs c).requestBuffer = s.requestBuffer := rfl
@[simp] theorem setCs_result (c : ChipSelect) : (s.setCs c).result = s.result := rfl
@[simp] theorem setCs_buffers (c : ChipSelect) : (s.setCs c).buffers = s.buffers := rfl
@[simp] theorem setCs_trace (c : ChipSelect) : (s.setCs c).trace = .chipSelect c :: s.trace := rfl
@[simp] theorem setCs_card (c : ChipSelect) : (s.setCs c).card = s.card := rfl
@[simp] theorem setCs_exchanges (c : ChipSelect) : (s.setCs c).exchanges = s.exchanges := rfl
@[simp] theorem setCs_agenda (c : ChipSelect) : (s.setCs c).agenda = s.agenda := rfl
@[simp] theorem setCs_draws (c : ChipSelect) : (s.setCs c).draws = s.draws := rfl
@[simp] theorem setCs_frees (c : ChipSelect) : (s.setCs c).frees = s.frees := rfl

/-! ### setClk -/

@[simp] theorem setClk_stat (c : ClockSpeed) : (s.setClk c).stat = s.stat := rfl
@[simp] theorem setClk_ct (c : ClockSpeed) : (s.setClk c).ct = s.ct := rfl
@[simp] theorem setClk_tmr1 (c : ClockSpeed) : (s.setClk c).tmr1 = s.tmr1 := rfl
@[simp] theorem setClk_tmr2 (c : ClockSpeed) : (s.setClk c).tmr2 = s.tmr2 := rfl
@[simp] theorem setClk_cs (c : ClockSpeed) : (s.setClk c).cs = s.cs := rfl
@[simp] theorem setClk_clk (c : ClockSpeed) : (s.setClk c).clk = c := rfl
@[simp] theorem setClk_pwr (c : ClockSpeed) : (s.setClk c).pwr = s.pwr := rfl
@[simp] theorem setClk_app (c : ClockSpeed) : (s.setClk c).app = s.app := rfl
@[simp] theorem setClk_idx (c : ClockSpeed) : (s.setClk c).idx = s.idx := rfl
@[simp] theorem setClk_arg (c : ClockSpeed) : (s.setClk c).arg = s.arg := rfl
@[simp] theorem setClk_resp (c : ClockSpeed) : (s.setClk c).resp = s.resp := rfl
@[simp] theorem setClk_scr (c : ClockSpeed) : (s.setClk c).scr = s.scr := rfl
@[simp] theorem setClk_n (c : ClockSpeed) : (s.setClk c).n = s.n := rfl
@[simp] theorem setClk_seq (c : ClockSpeed) : (s.setClk c).seq = s.seq := rfl
@[simp] theorem setClk_cdPresent (c : ClockSpeed) : (s.setClk c).cdPresent = s.cdPresent := rfl
@[simp] theorem setClk_wpActive (c : ClockSpeed) : (s.setClk c).wpActive = s.wpActive := rfl
@[simp] theorem setClk_requestBuffer (c : ClockSpeed) : (s.setClk c).requestBuffer = s.requestBuffer := rfl
@[simp] theorem setClk_result (c : ClockSpeed) : (s.setClk c).result = s.result := rfl
@[simp] theorem setClk_buffers (c : ClockSpeed) : (s.setClk c).buffers = s.buffers := rfl
@[simp] theorem setClk_trace (c : ClockSpeed) : (s.setClk c).trace = .clock c :: s.trace := rfl
@[simp] theorem setClk_card (c : ClockSpeed) : (s.setClk c).card = s.card := rfl
@[simp] theorem setClk_exchanges (c : ClockSpeed) : (s.setClk c).exchanges = s.exchanges := rfl
@[simp] theorem setClk_agenda (c : ClockSpeed) : (s.setClk c).agenda = s.agenda := rfl
@[simp] theorem setClk_draws (c : ClockSpeed) : (s.setClk c).draws = s.draws := rfl
@[simp] theorem setClk_frees (c : ClockSpeed) : (s.setClk c).frees = s.frees := rfl

/-! ### setPwr -/

@[simp] theorem setPwr_stat (p : Power) : (s.setPwr p).stat = s.stat := rfl
@[simp] theorem setPwr_ct (p : Power) : (s.setPwr p).ct = s.ct := rfl
@[simp] theorem setPwr_tmr1 (p : Power) : (s.setPwr p).tmr1 = s.tmr1 := rfl
@[simp] theorem setPwr_tmr2 (p : Power) : (s.setPwr p).tmr2 = s.tmr2 := rfl
@[simp] theorem setPwr_cs (p : Power) : (s.setPwr p).cs = s.cs := rfl
@[simp] theorem setPwr_clk (p : Power) : (s.setPwr p).clk = s.clk := rfl
@[simp] theorem setPwr_pwr (p : Power) : (s.setPwr p).pwr = p := rfl
@[simp] theorem setPwr_app (p : Power) : (s.setPwr p).app = s.app := rfl
@[simp] theorem setPwr_idx (p : Power) : (s.setPwr p).idx = s.idx := rfl
@[simp] theorem setPwr_arg (p : Power) : (s.setPwr p).arg = s.arg := rfl
@[simp] theorem setPwr_resp (p : Power) : (s.setPwr p).resp = s.resp := rfl
@[simp] theorem setPwr_scr (p : Power) : (s.setPwr p).scr = s.scr := rfl
@[simp] theorem setPwr_n (p : Power) : (s.setPwr p).n = s.n := rfl
@[simp] theorem setPwr_seq (p : Power) : (s.setPwr p).seq = s.seq := rfl
@[simp] theorem setPwr_cdPresent (p : Power) : (s.setPwr p).cdPresent = s.cdPresent := rfl
@[simp] theorem setPwr_wpActive (p : Power) : (s.setPwr p).wpActive = s.wpActive := rfl
@[simp] theorem setPwr_requestBuffer (p : Power) : (s.setPwr p).requestBuffer = s.requestBuffer := rfl
@[simp] theorem setPwr_result (p : Power) : (s.setPwr p).result = s.result := rfl
@[simp] theorem setPwr_buffers (p : Power) : (s.setPwr p).buffers = s.buffers := rfl
@[simp] theorem setPwr_trace (p : Power) : (s.setPwr p).trace = .power p :: s.trace := rfl
@[simp] theorem setPwr_card (p : Power) : (s.setPwr p).card = s.card := rfl
@[simp] theorem setPwr_exchanges (p : Power) : (s.setPwr p).exchanges = s.exchanges := rfl
@[simp] theorem setPwr_agenda (p : Power) : (s.setPwr p).agenda = s.agenda := rfl
@[simp] theorem setPwr_draws (p : Power) : (s.setPwr p).draws = s.draws := rfl
@[simp] theorem setPwr_frees (p : Power) : (s.setPwr p).frees = s.frees := rfl

/-! ### arm1 -/

@[simp] theorem arm1_stat (v : Counter) : (s.arm1 v).stat = s.stat := rfl
@[simp] theorem arm1_ct (v : Counter) : (s.arm1 v).ct = s.ct := rfl
@[simp] theorem arm1_tmr1 (v : Counter) : (s.arm1 v).tmr1 = v := rfl
@[simp] theorem arm1_tmr2 (v : Counter) : (s.arm1 v).tmr2 = s.tmr2 := rfl
@[simp] theorem arm1_cs (v : Counter) : (s.arm1 v).cs = s.cs := rfl
@[simp] theorem arm1_clk (v : Counter) : (s.arm1 v).clk = s.clk := rfl
@[simp] theorem arm1_pwr (v : Counter) : (s.arm1 v).pwr = s.pwr := rfl
@[simp] theorem arm1_app (v : Counter) : (s.arm1 v).app = s.app := rfl
@[simp] theorem arm1_idx (v : Counter) : (s.arm1 v).idx = s.idx := rfl
@[simp] theorem arm1_arg (v : Counter) : (s.arm1 v).arg = s.arg := rfl
@[simp] theorem arm1_resp (v : Counter) : (s.arm1 v).resp = s.resp := rfl
@[simp] theorem arm1_scr (v : Counter) : (s.arm1 v).scr = s.scr := rfl
@[simp] theorem arm1_n (v : Counter) : (s.arm1 v).n = s.n := rfl
@[simp] theorem arm1_seq (v : Counter) : (s.arm1 v).seq = s.seq := rfl
@[simp] theorem arm1_cdPresent (v : Counter) : (s.arm1 v).cdPresent = s.cdPresent := rfl
@[simp] theorem arm1_wpActive (v : Counter) : (s.arm1 v).wpActive = s.wpActive := rfl
@[simp] theorem arm1_requestBuffer (v : Counter) : (s.arm1 v).requestBuffer = s.requestBuffer := rfl
@[simp] theorem arm1_result (v : Counter) : (s.arm1 v).result = s.result := rfl
@[simp] theorem arm1_buffers (v : Counter) : (s.arm1 v).buffers = s.buffers := rfl
@[simp] theorem arm1_trace (v : Counter) : (s.arm1 v).trace = s.trace := rfl
@[simp] theorem arm1_card (v : Counter) : (s.arm1 v).card = s.card := rfl
@[simp] theorem arm1_exchanges (v : Counter) : (s.arm1 v).exchanges = s.exchanges := rfl
@[simp] theorem arm1_agenda (v : Counter) : (s.arm1 v).agenda = s.agenda := rfl
@[simp] theorem arm1_draws (v : Counter) : (s.arm1 v).draws = s.draws := rfl
@[simp] theorem arm1_frees (v : Counter) : (s.arm1 v).frees = s.frees := rfl

/-! ### arm2 -/

@[simp] theorem arm2_stat (v : Counter) : (s.arm2 v).stat = s.stat := rfl
@[simp] theorem arm2_ct (v : Counter) : (s.arm2 v).ct = s.ct := rfl
@[simp] theorem arm2_tmr1 (v : Counter) : (s.arm2 v).tmr1 = s.tmr1 := rfl
@[simp] theorem arm2_tmr2 (v : Counter) : (s.arm2 v).tmr2 = v := rfl
@[simp] theorem arm2_cs (v : Counter) : (s.arm2 v).cs = s.cs := rfl
@[simp] theorem arm2_clk (v : Counter) : (s.arm2 v).clk = s.clk := rfl
@[simp] theorem arm2_pwr (v : Counter) : (s.arm2 v).pwr = s.pwr := rfl
@[simp] theorem arm2_app (v : Counter) : (s.arm2 v).app = s.app := rfl
@[simp] theorem arm2_idx (v : Counter) : (s.arm2 v).idx = s.idx := rfl
@[simp] theorem arm2_arg (v : Counter) : (s.arm2 v).arg = s.arg := rfl
@[simp] theorem arm2_resp (v : Counter) : (s.arm2 v).resp = s.resp := rfl
@[simp] theorem arm2_scr (v : Counter) : (s.arm2 v).scr = s.scr := rfl
@[simp] theorem arm2_n (v : Counter) : (s.arm2 v).n = s.n := rfl
@[simp] theorem arm2_seq (v : Counter) : (s.arm2 v).seq = s.seq := rfl
@[simp] theorem arm2_cdPresent (v : Counter) : (s.arm2 v).cdPresent = s.cdPresent := rfl
@[simp] theorem arm2_wpActive (v : Counter) : (s.arm2 v).wpActive = s.wpActive := rfl
@[simp] theorem arm2_requestBuffer (v : Counter) : (s.arm2 v).requestBuffer = s.requestBuffer := rfl
@[simp] theorem arm2_result (v : Counter) : (s.arm2 v).result = s.result := rfl
@[simp] theorem arm2_buffers (v : Counter) : (s.arm2 v).buffers = s.buffers := rfl
@[simp] theorem arm2_trace (v : Counter) : (s.arm2 v).trace = s.trace := rfl
@[simp] theorem arm2_card (v : Counter) : (s.arm2 v).card = s.card := rfl
@[simp] theorem arm2_exchanges (v : Counter) : (s.arm2 v).exchanges = s.exchanges := rfl
@[simp] theorem arm2_agenda (v : Counter) : (s.arm2 v).agenda = s.agenda := rfl
@[simp] theorem arm2_draws (v : Counter) : (s.arm2 v).draws = s.draws := rfl
@[simp] theorem arm2_frees (v : Counter) : (s.arm2 v).frees = s.frees := rfl

/-! ### setNotInitialized -/

@[simp] theorem setNotInitialized_stat (b : Bool) : (s.setNotInitialized b).stat = s.stat.withNotInitialized b := rfl
@[simp] theorem setNotInitialized_ct (b : Bool) : (s.setNotInitialized b).ct = s.ct := rfl
@[simp] theorem setNotInitialized_tmr1 (b : Bool) : (s.setNotInitialized b).tmr1 = s.tmr1 := rfl
@[simp] theorem setNotInitialized_tmr2 (b : Bool) : (s.setNotInitialized b).tmr2 = s.tmr2 := rfl
@[simp] theorem setNotInitialized_cs (b : Bool) : (s.setNotInitialized b).cs = s.cs := rfl
@[simp] theorem setNotInitialized_clk (b : Bool) : (s.setNotInitialized b).clk = s.clk := rfl
@[simp] theorem setNotInitialized_pwr (b : Bool) : (s.setNotInitialized b).pwr = s.pwr := rfl
@[simp] theorem setNotInitialized_app (b : Bool) : (s.setNotInitialized b).app = s.app := rfl
@[simp] theorem setNotInitialized_idx (b : Bool) : (s.setNotInitialized b).idx = s.idx := rfl
@[simp] theorem setNotInitialized_arg (b : Bool) : (s.setNotInitialized b).arg = s.arg := rfl
@[simp] theorem setNotInitialized_resp (b : Bool) : (s.setNotInitialized b).resp = s.resp := rfl
@[simp] theorem setNotInitialized_scr (b : Bool) : (s.setNotInitialized b).scr = s.scr := rfl
@[simp] theorem setNotInitialized_n (b : Bool) : (s.setNotInitialized b).n = s.n := rfl
@[simp] theorem setNotInitialized_seq (b : Bool) : (s.setNotInitialized b).seq = s.seq := rfl
@[simp] theorem setNotInitialized_cdPresent (b : Bool) : (s.setNotInitialized b).cdPresent = s.cdPresent := rfl
@[simp] theorem setNotInitialized_wpActive (b : Bool) : (s.setNotInitialized b).wpActive = s.wpActive := rfl
@[simp] theorem setNotInitialized_requestBuffer (b : Bool) : (s.setNotInitialized b).requestBuffer = s.requestBuffer := rfl
@[simp] theorem setNotInitialized_result (b : Bool) : (s.setNotInitialized b).result = s.result := rfl
@[simp] theorem setNotInitialized_buffers (b : Bool) : (s.setNotInitialized b).buffers = s.buffers := rfl
@[simp] theorem setNotInitialized_trace (b : Bool) : (s.setNotInitialized b).trace = s.trace := rfl
@[simp] theorem setNotInitialized_card (b : Bool) : (s.setNotInitialized b).card = s.card := rfl
@[simp] theorem setNotInitialized_exchanges (b : Bool) : (s.setNotInitialized b).exchanges = s.exchanges := rfl
@[simp] theorem setNotInitialized_agenda (b : Bool) : (s.setNotInitialized b).agenda = s.agenda := rfl
@[simp] theorem setNotInitialized_draws (b : Bool) : (s.setNotInitialized b).draws = s.draws := rfl
@[simp] theorem setNotInitialized_frees (b : Bool) : (s.setNotInitialized b).frees = s.frees := rfl

/-! ### setScr -/

@[simp] theorem setScr_stat (i : Nat) (b : Byte) : (s.setScr i b).stat = s.stat := rfl
@[simp] theorem setScr_ct (i : Nat) (b : Byte) : (s.setScr i b).ct = s.ct := rfl
@[simp] theorem setScr_tmr1 (i : Nat) (b : Byte) : (s.setScr i b).tmr1 = s.tmr1 := rfl
@[simp] theorem setScr_tmr2 (i : Nat) (b : Byte) : (s.setScr i b).tmr2 = s.tmr2 := rfl
@[simp] theorem setScr_cs (i : Nat) (b : Byte) : (s.setScr i b).cs = s.cs := rfl
@[simp] theorem setScr_clk (i : Nat) (b : Byte) : (s.setScr i b).clk = s.clk := rfl
@[simp] theorem setScr_pwr (i : Nat) (b : Byte) : (s.setScr i b).pwr = s.pwr := rfl
@[simp] theorem setScr_app (i : Nat) (b : Byte) : (s.setScr i b).app = s.app := rfl
@[simp] theorem setScr_idx (i : Nat) (b : Byte) : (s.setScr i b).idx = s.idx := rfl
@[simp] theorem setScr_arg (i : Nat) (b : Byte) : (s.setScr i b).arg = s.arg := rfl
@[simp] theorem setScr_resp (i : Nat) (b : Byte) : (s.setScr i b).resp = s.resp := rfl
@[simp] theorem setScr_scr (i : Nat) (b : Byte) : (s.setScr i b).scr = s.scr.setIfInBounds i b := rfl
@[simp] theorem setScr_n (i : Nat) (b : Byte) : (s.setScr i b).n = s.n := rfl
@[simp] theorem setScr_seq (i : Nat) (b : Byte) : (s.setScr i b).seq = s.seq := rfl
@[simp] theorem setScr_cdPresent (i : Nat) (b : Byte) : (s.setScr i b).cdPresent = s.cdPresent := rfl
@[simp] theorem setScr_wpActive (i : Nat) (b : Byte) : (s.setScr i b).wpActive = s.wpActive := rfl
@[simp] theorem setScr_requestBuffer (i : Nat) (b : Byte) : (s.setScr i b).requestBuffer = s.requestBuffer := rfl
@[simp] theorem setScr_result (i : Nat) (b : Byte) : (s.setScr i b).result = s.result := rfl
@[simp] theorem setScr_buffers (i : Nat) (b : Byte) : (s.setScr i b).buffers = s.buffers := rfl
@[simp] theorem setScr_trace (i : Nat) (b : Byte) : (s.setScr i b).trace = s.trace := rfl
@[simp] theorem setScr_card (i : Nat) (b : Byte) : (s.setScr i b).card = s.card := rfl
@[simp] theorem setScr_exchanges (i : Nat) (b : Byte) : (s.setScr i b).exchanges = s.exchanges := rfl
@[simp] theorem setScr_agenda (i : Nat) (b : Byte) : (s.setScr i b).agenda = s.agenda := rfl
@[simp] theorem setScr_draws (i : Nat) (b : Byte) : (s.setScr i b).draws = s.draws := rfl
@[simp] theorem setScr_frees (i : Nat) (b : Byte) : (s.setScr i b).frees = s.frees := rfl

/-! ### store -/

@[simp] theorem store_stat (h : Nat) (o : Nat) (b : Byte) : (s.store h o b).stat = s.stat := rfl
@[simp] theorem store_ct (h : Nat) (o : Nat) (b : Byte) : (s.store h o b).ct = s.ct := rfl
@[simp] theorem store_tmr1 (h : Nat) (o : Nat) (b : Byte) : (s.store h o b).tmr1 = s.tmr1 := rfl
@[simp] theorem store_tmr2 (h : Nat) (o : Nat) (b : Byte) : (s.store h o b).tmr2 = s.tmr2 := rfl
@[simp] theorem store_cs (h : Nat) (o : Nat) (b : Byte) : (s.store h o b).cs = s.cs := rfl
@[simp] theorem store_clk (h : Nat) (o : Nat) (b : Byte) : (s.store h o b).clk = s.clk := rfl
@[simp] theorem store_pwr (h : Nat) (o : Nat) (b : Byte) : (s.store h o b).pwr = s.pwr := rfl
@[simp] theorem store_app (h : Nat) (o : Nat) (b : Byte) : (s.store h o b).app = s.app := rfl
@[simp] theorem store_idx (h : Nat) (o : Nat) (b : Byte) : (s.store h o b).idx = s.idx := rfl
@[simp] theorem store_arg (h : Nat) (o : Nat) (b : Byte) : (s.store h o b).arg = s.arg := rfl
@[simp] theorem store_resp (h : Nat) (o : Nat) (b : Byte) : (s.store h o b).resp = s.resp := rfl
@[simp] theorem store_scr (h : Nat) (o : Nat) (b : Byte) : (s.store h o b).scr = s.scr := rfl
@[simp] theorem store_n (h : Nat) (o : Nat) (b : Byte) : (s.store h o b).n = s.n := rfl
@[simp] theorem store_seq (h : Nat) (o : Nat) (b : Byte) : (s.store h o b).seq = s.seq := rfl
@[simp] theorem store_cdPresent (h : Nat) (o : Nat) (b : Byte) : (s.store h o b).cdPresent = s.cdPresent := rfl
@[simp] theorem store_wpActive (h : Nat) (o : Nat) (b : Byte) : (s.store h o b).wpActive = s.wpActive := rfl
@[simp] theorem store_requestBuffer (h : Nat) (o : Nat) (b : Byte) : (s.store h o b).requestBuffer = s.requestBuffer := rfl
@[simp] theorem store_result (h : Nat) (o : Nat) (b : Byte) : (s.store h o b).result = s.result := rfl
@[simp] theorem store_buffers (h : Nat) (o : Nat) (b : Byte) : (s.store h o b).buffers = Memory.write s.buffers (bufferCell h o) b := rfl
@[simp] theorem store_trace (h : Nat) (o : Nat) (b : Byte) : (s.store h o b).trace = s.trace := rfl
@[simp] theorem store_card (h : Nat) (o : Nat) (b : Byte) : (s.store h o b).card = s.card := rfl
@[simp] theorem store_exchanges (h : Nat) (o : Nat) (b : Byte) : (s.store h o b).exchanges = s.exchanges := rfl
@[simp] theorem store_agenda (h : Nat) (o : Nat) (b : Byte) : (s.store h o b).agenda = s.agenda := rfl
@[simp] theorem store_draws (h : Nat) (o : Nat) (b : Byte) : (s.store h o b).draws = s.draws := rfl
@[simp] theorem store_frees (h : Nat) (o : Nat) (b : Byte) : (s.store h o b).frees = s.frees := rfl

/-! ### describe -/

@[simp] theorem describe_stat (a : Bool) (i : Index) (g : Argument) : (s.describe a i g).stat = s.stat := rfl
@[simp] theorem describe_ct (a : Bool) (i : Index) (g : Argument) : (s.describe a i g).ct = s.ct := rfl
@[simp] theorem describe_tmr1 (a : Bool) (i : Index) (g : Argument) : (s.describe a i g).tmr1 = s.tmr1 := rfl
@[simp] theorem describe_tmr2 (a : Bool) (i : Index) (g : Argument) : (s.describe a i g).tmr2 = s.tmr2 := rfl
@[simp] theorem describe_cs (a : Bool) (i : Index) (g : Argument) : (s.describe a i g).cs = s.cs := rfl
@[simp] theorem describe_clk (a : Bool) (i : Index) (g : Argument) : (s.describe a i g).clk = s.clk := rfl
@[simp] theorem describe_pwr (a : Bool) (i : Index) (g : Argument) : (s.describe a i g).pwr = s.pwr := rfl
@[simp] theorem describe_app (a : Bool) (i : Index) (g : Argument) : (s.describe a i g).app = a := rfl
@[simp] theorem describe_idx (a : Bool) (i : Index) (g : Argument) : (s.describe a i g).idx = i := rfl
@[simp] theorem describe_arg (a : Bool) (i : Index) (g : Argument) : (s.describe a i g).arg = g := rfl
@[simp] theorem describe_resp (a : Bool) (i : Index) (g : Argument) : (s.describe a i g).resp = s.resp := rfl
@[simp] theorem describe_scr (a : Bool) (i : Index) (g : Argument) : (s.describe a i g).scr = s.scr := rfl
@[simp] theorem describe_n (a : Bool) (i : Index) (g : Argument) : (s.describe a i g).n = s.n := rfl
@[simp] theorem describe_seq (a : Bool) (i : Index) (g : Argument) : (s.describe a i g).seq = s.seq := rfl
@[simp] theorem describe_cdPresent (a : Bool) (i : Index) (g : Argument) : (s.describe a i g).cdPresent = s.cdPresent := rfl
@[simp] theorem describe_wpActive (a : Bool) (i : Index) (g : Argument) : (s.describe a i g).wpActive = s.wpActive := rfl
@[simp] theorem describe_requestBuffer (a : Bool) (i : Index) (g : Argument) : (s.describe a i g).requestBuffer = s.requestBuffer := rfl
@[simp] theorem describe_result (a : Bool) (i : Index) (g : Argument) : (s.describe a i g).result = s.result := rfl
@[simp] theorem describe_buffers (a : Bool) (i : Index) (g : Argument) : (s.describe a i g).buffers = s.buffers := rfl
@[simp] theorem describe_trace (a : Bool) (i : Index) (g : Argument) : (s.describe a i g).trace = s.trace := rfl
@[simp] theorem describe_card (a : Bool) (i : Index) (g : Argument) : (s.describe a i g).card = s.card := rfl
@[simp] theorem describe_exchanges (a : Bool) (i : Index) (g : Argument) : (s.describe a i g).exchanges = s.exchanges := rfl
@[simp] theorem describe_agenda (a : Bool) (i : Index) (g : Argument) : (s.describe a i g).agenda = s.agenda := rfl
@[simp] theorem describe_draws (a : Bool) (i : Index) (g : Argument) : (s.describe a i g).draws = s.draws := rfl
@[simp] theorem describe_frees (a : Bool) (i : Index) (g : Argument) : (s.describe a i g).frees = s.frees := rfl

/-! ### call -/

@[simp] theorem call_stat (k : Site) (a : Bool) (i : Index) (g : Argument) : (s.call k a i g).stat = s.stat := rfl
@[simp] theorem call_ct (k : Site) (a : Bool) (i : Index) (g : Argument) : (s.call k a i g).ct = s.ct := rfl
@[simp] theorem call_tmr1 (k : Site) (a : Bool) (i : Index) (g : Argument) : (s.call k a i g).tmr1 = s.tmr1 := rfl
@[simp] theorem call_tmr2 (k : Site) (a : Bool) (i : Index) (g : Argument) : (s.call k a i g).tmr2 = s.tmr2 := rfl
@[simp] theorem call_cs (k : Site) (a : Bool) (i : Index) (g : Argument) : (s.call k a i g).cs = s.cs := rfl
@[simp] theorem call_clk (k : Site) (a : Bool) (i : Index) (g : Argument) : (s.call k a i g).clk = s.clk := rfl
@[simp] theorem call_pwr (k : Site) (a : Bool) (i : Index) (g : Argument) : (s.call k a i g).pwr = s.pwr := rfl
@[simp] theorem call_app (k : Site) (a : Bool) (i : Index) (g : Argument) : (s.call k a i g).app = a := rfl
@[simp] theorem call_idx (k : Site) (a : Bool) (i : Index) (g : Argument) : (s.call k a i g).idx = i := rfl
@[simp] theorem call_arg (k : Site) (a : Bool) (i : Index) (g : Argument) : (s.call k a i g).arg = g := rfl
@[simp] theorem call_resp (k : Site) (a : Bool) (i : Index) (g : Argument) : (s.call k a i g).resp = s.resp := rfl
@[simp] theorem call_scr (k : Site) (a : Bool) (i : Index) (g : Argument) : (s.call k a i g).scr = s.scr := rfl
@[simp] theorem call_n (k : Site) (a : Bool) (i : Index) (g : Argument) : (s.call k a i g).n = s.n := rfl
@[simp] theorem call_seq (k : Site) (a : Bool) (i : Index) (g : Argument) : (s.call k a i g).seq = { s.seq with site := k, micro := .issue } := rfl
@[simp] theorem call_cdPresent (k : Site) (a : Bool) (i : Index) (g : Argument) : (s.call k a i g).cdPresent = s.cdPresent := rfl
@[simp] theorem call_wpActive (k : Site) (a : Bool) (i : Index) (g : Argument) : (s.call k a i g).wpActive = s.wpActive := rfl
@[simp] theorem call_requestBuffer (k : Site) (a : Bool) (i : Index) (g : Argument) : (s.call k a i g).requestBuffer = s.requestBuffer := rfl
@[simp] theorem call_result (k : Site) (a : Bool) (i : Index) (g : Argument) : (s.call k a i g).result = s.result := rfl
@[simp] theorem call_buffers (k : Site) (a : Bool) (i : Index) (g : Argument) : (s.call k a i g).buffers = s.buffers := rfl
@[simp] theorem call_trace (k : Site) (a : Bool) (i : Index) (g : Argument) : (s.call k a i g).trace = s.trace := rfl
@[simp] theorem call_card (k : Site) (a : Bool) (i : Index) (g : Argument) : (s.call k a i g).card = s.card := rfl
@[simp] theorem call_exchanges (k : Site) (a : Bool) (i : Index) (g : Argument) : (s.call k a i g).exchanges = s.exchanges := rfl
@[simp] theorem call_agenda (k : Site) (a : Bool) (i : Index) (g : Argument) : (s.call k a i g).agenda = s.agenda := rfl
@[simp] theorem call_draws (k : Site) (a : Bool) (i : Index) (g : Argument) : (s.call k a i g).draws = s.draws := rfl
@[simp] theorem call_frees (k : Site) (a : Bool) (i : Index) (g : Argument) : (s.call k a i g).frees = s.frees := rfl

/-! ### deliver -/

@[simp] theorem deliver_stat (r : HostResult) : (s.deliver r).stat = s.stat := rfl
@[simp] theorem deliver_ct (r : HostResult) : (s.deliver r).ct = s.ct := rfl
@[simp] theorem deliver_tmr1 (r : HostResult) : (s.deliver r).tmr1 = s.tmr1 := rfl
@[simp] theorem deliver_tmr2 (r : HostResult) : (s.deliver r).tmr2 = s.tmr2 := rfl
@[simp] theorem deliver_cs (r : HostResult) : (s.deliver r).cs = s.cs := rfl
@[simp] theorem deliver_clk (r : HostResult) : (s.deliver r).clk = s.clk := rfl
@[simp] theorem deliver_pwr (r : HostResult) : (s.deliver r).pwr = s.pwr := rfl
@[simp] theorem deliver_app (r : HostResult) : (s.deliver r).app = s.app := rfl
@[simp] theorem deliver_idx (r : HostResult) : (s.deliver r).idx = s.idx := rfl
@[simp] theorem deliver_arg (r : HostResult) : (s.deliver r).arg = s.arg := rfl
@[simp] theorem deliver_resp (r : HostResult) : (s.deliver r).resp = s.resp := rfl
@[simp] theorem deliver_scr (r : HostResult) : (s.deliver r).scr = s.scr := rfl
@[simp] theorem deliver_n (r : HostResult) : (s.deliver r).n = s.n := rfl
@[simp] theorem deliver_seq (r : HostResult) : (s.deliver r).seq = { s.seq with busy := false, micro := .rest } := rfl
@[simp] theorem deliver_cdPresent (r : HostResult) : (s.deliver r).cdPresent = s.cdPresent := rfl
@[simp] theorem deliver_wpActive (r : HostResult) : (s.deliver r).wpActive = s.wpActive := rfl
@[simp] theorem deliver_requestBuffer (r : HostResult) : (s.deliver r).requestBuffer = s.requestBuffer := rfl
@[simp] theorem deliver_result (r : HostResult) : (s.deliver r).result = some r := rfl
@[simp] theorem deliver_buffers (r : HostResult) : (s.deliver r).buffers = s.buffers := rfl
@[simp] theorem deliver_trace (r : HostResult) : (s.deliver r).trace = s.trace := rfl
@[simp] theorem deliver_card (r : HostResult) : (s.deliver r).card = s.card := rfl
@[simp] theorem deliver_exchanges (r : HostResult) : (s.deliver r).exchanges = s.exchanges := rfl
@[simp] theorem deliver_agenda (r : HostResult) : (s.deliver r).agenda = s.agenda := rfl
@[simp] theorem deliver_draws (r : HostResult) : (s.deliver r).draws = s.draws := rfl
@[simp] theorem deliver_frees (r : HostResult) : (s.deliver r).frees = s.frees := rfl

/-! ### answer -/

@[simp] theorem answer_stat (r : HostResult) : (s.answer r).stat = s.stat := rfl
@[simp] theorem answer_ct (r : HostResult) : (s.answer r).ct = s.ct := rfl
@[simp] theorem answer_tmr1 (r : HostResult) : (s.answer r).tmr1 = s.tmr1 := rfl
@[simp] theorem answer_tmr2 (r : HostResult) : (s.answer r).tmr2 = s.tmr2 := rfl
@[simp] theorem answer_cs (r : HostResult) : (s.answer r).cs = s.cs := rfl
@[simp] theorem answer_clk (r : HostResult) : (s.answer r).clk = s.clk := rfl
@[simp] theorem answer_pwr (r : HostResult) : (s.answer r).pwr = s.pwr := rfl
@[simp] theorem answer_app (r : HostResult) : (s.answer r).app = s.app := rfl
@[simp] theorem answer_idx (r : HostResult) : (s.answer r).idx = s.idx := rfl
@[simp] theorem answer_arg (r : HostResult) : (s.answer r).arg = s.arg := rfl
@[simp] theorem answer_resp (r : HostResult) : (s.answer r).resp = s.resp := rfl
@[simp] theorem answer_scr (r : HostResult) : (s.answer r).scr = s.scr := rfl
@[simp] theorem answer_n (r : HostResult) : (s.answer r).n = s.n := rfl
@[simp] theorem answer_seq (r : HostResult) : (s.answer r).seq = s.seq := rfl
@[simp] theorem answer_cdPresent (r : HostResult) : (s.answer r).cdPresent = s.cdPresent := rfl
@[simp] theorem answer_wpActive (r : HostResult) : (s.answer r).wpActive = s.wpActive := rfl
@[simp] theorem answer_requestBuffer (r : HostResult) : (s.answer r).requestBuffer = s.requestBuffer := rfl
@[simp] theorem answer_result (r : HostResult) : (s.answer r).result = some r := rfl
@[simp] theorem answer_buffers (r : HostResult) : (s.answer r).buffers = s.buffers := rfl
@[simp] theorem answer_trace (r : HostResult) : (s.answer r).trace = s.trace := rfl
@[simp] theorem answer_card (r : HostResult) : (s.answer r).card = s.card := rfl
@[simp] theorem answer_exchanges (r : HostResult) : (s.answer r).exchanges = s.exchanges := rfl
@[simp] theorem answer_agenda (r : HostResult) : (s.answer r).agenda = s.agenda := rfl
@[simp] theorem answer_draws (r : HostResult) : (s.answer r).draws = s.draws := rfl
@[simp] theorem answer_frees (r : HostResult) : (s.answer r).frees = s.frees := rfl

/-! ### closeWith -/

@[simp] theorem closeWith_stat (c : ResultCode) : (s.closeWith c).stat = s.stat := rfl
@[simp] theorem closeWith_ct (c : ResultCode) : (s.closeWith c).ct = s.ct := rfl
@[simp] theorem closeWith_tmr1 (c : ResultCode) : (s.closeWith c).tmr1 = s.tmr1 := rfl
@[simp] theorem closeWith_tmr2 (c : ResultCode) : (s.closeWith c).tmr2 = s.tmr2 := rfl
@[simp] theorem closeWith_cs (c : ResultCode) : (s.closeWith c).cs = s.cs := rfl
@[simp] theorem closeWith_clk (c : ResultCode) : (s.closeWith c).clk = s.clk := rfl
@[simp] theorem closeWith_pwr (c : ResultCode) : (s.closeWith c).pwr = s.pwr := rfl
@[simp] theorem closeWith_app (c : ResultCode) : (s.closeWith c).app = s.app := rfl
@[simp] theorem closeWith_idx (c : ResultCode) : (s.closeWith c).idx = s.idx := rfl
@[simp] theorem closeWith_arg (c : ResultCode) : (s.closeWith c).arg = s.arg := rfl
@[simp] theorem closeWith_resp (c : ResultCode) : (s.closeWith c).resp = s.resp := rfl
@[simp] theorem closeWith_scr (c : ResultCode) : (s.closeWith c).scr = s.scr := rfl
@[simp] theorem closeWith_n (c : ResultCode) : (s.closeWith c).n = s.n := rfl
@[simp] theorem closeWith_seq (c : ResultCode) : (s.closeWith c).seq = { s.seq with res := c, micro := .deselectLatch .exit } := rfl
@[simp] theorem closeWith_cdPresent (c : ResultCode) : (s.closeWith c).cdPresent = s.cdPresent := rfl
@[simp] theorem closeWith_wpActive (c : ResultCode) : (s.closeWith c).wpActive = s.wpActive := rfl
@[simp] theorem closeWith_requestBuffer (c : ResultCode) : (s.closeWith c).requestBuffer = s.requestBuffer := rfl
@[simp] theorem closeWith_result (c : ResultCode) : (s.closeWith c).result = s.result := rfl
@[simp] theorem closeWith_buffers (c : ResultCode) : (s.closeWith c).buffers = s.buffers := rfl
@[simp] theorem closeWith_trace (c : ResultCode) : (s.closeWith c).trace = s.trace := rfl
@[simp] theorem closeWith_card (c : ResultCode) : (s.closeWith c).card = s.card := rfl
@[simp] theorem closeWith_exchanges (c : ResultCode) : (s.closeWith c).exchanges = s.exchanges := rfl
@[simp] theorem closeWith_agenda (c : ResultCode) : (s.closeWith c).agenda = s.agenda := rfl
@[simp] theorem closeWith_draws (c : ResultCode) : (s.closeWith c).draws = s.draws := rfl
@[simp] theorem closeWith_frees (c : ResultCode) : (s.closeWith c).frees = s.frees := rfl

/-! ### enterPhase -/

@[simp] theorem enterPhase_stat (p : Phase) (m : Micro) : (s.enterPhase p m).stat = s.stat := rfl
@[simp] theorem enterPhase_ct (p : Phase) (m : Micro) : (s.enterPhase p m).ct = s.ct := rfl
@[simp] theorem enterPhase_tmr1 (p : Phase) (m : Micro) : (s.enterPhase p m).tmr1 = s.tmr1 := rfl
@[simp] theorem enterPhase_tmr2 (p : Phase) (m : Micro) : (s.enterPhase p m).tmr2 = s.tmr2 := rfl
@[simp] theorem enterPhase_cs (p : Phase) (m : Micro) : (s.enterPhase p m).cs = s.cs := rfl
@[simp] theorem enterPhase_clk (p : Phase) (m : Micro) : (s.enterPhase p m).clk = s.clk := rfl
@[simp] theorem enterPhase_pwr (p : Phase) (m : Micro) : (s.enterPhase p m).pwr = s.pwr := rfl
@[simp] theorem enterPhase_app (p : Phase) (m : Micro) : (s.enterPhase p m).app = s.app := rfl
@[simp] theorem enterPhase_idx (p : Phase) (m : Micro) : (s.enterPhase p m).idx = s.idx := rfl
@[simp] theorem enterPhase_arg (p : Phase) (m : Micro) : (s.enterPhase p m).arg = s.arg := rfl
@[simp] theorem enterPhase_resp (p : Phase) (m : Micro) : (s.enterPhase p m).resp = s.resp := rfl
@[simp] theorem enterPhase_scr (p : Phase) (m : Micro) : (s.enterPhase p m).scr = s.scr := rfl
@[simp] theorem enterPhase_n (p : Phase) (m : Micro) : (s.enterPhase p m).n = s.n := rfl
@[simp] theorem enterPhase_seq (p : Phase) (m : Micro) : (s.enterPhase p m).seq = { s.seq with phase := p, micro := m } := rfl
@[simp] theorem enterPhase_cdPresent (p : Phase) (m : Micro) : (s.enterPhase p m).cdPresent = s.cdPresent := rfl
@[simp] theorem enterPhase_wpActive (p : Phase) (m : Micro) : (s.enterPhase p m).wpActive = s.wpActive := rfl
@[simp] theorem enterPhase_requestBuffer (p : Phase) (m : Micro) : (s.enterPhase p m).requestBuffer = s.requestBuffer := rfl
@[simp] theorem enterPhase_result (p : Phase) (m : Micro) : (s.enterPhase p m).result = s.result := rfl
@[simp] theorem enterPhase_buffers (p : Phase) (m : Micro) : (s.enterPhase p m).buffers = s.buffers := rfl
@[simp] theorem enterPhase_trace (p : Phase) (m : Micro) : (s.enterPhase p m).trace = s.trace := rfl
@[simp] theorem enterPhase_card (p : Phase) (m : Micro) : (s.enterPhase p m).card = s.card := rfl
@[simp] theorem enterPhase_exchanges (p : Phase) (m : Micro) : (s.enterPhase p m).exchanges = s.exchanges := rfl
@[simp] theorem enterPhase_agenda (p : Phase) (m : Micro) : (s.enterPhase p m).agenda = s.agenda := rfl
@[simp] theorem enterPhase_draws (p : Phase) (m : Micro) : (s.enterPhase p m).draws = s.draws := rfl
@[simp] theorem enterPhase_frees (p : Phase) (m : Micro) : (s.enterPhase p m).frees = s.frees := rfl

/-! ### finishInit -/

@[simp] theorem finishInit_stat (ty : Byte) : (s.finishInit ty).stat = s.stat := rfl
@[simp] theorem finishInit_ct (ty : Byte) : (s.finishInit ty).ct = s.ct := rfl
@[simp] theorem finishInit_tmr1 (ty : Byte) : (s.finishInit ty).tmr1 = s.tmr1 := rfl
@[simp] theorem finishInit_tmr2 (ty : Byte) : (s.finishInit ty).tmr2 = s.tmr2 := rfl
@[simp] theorem finishInit_cs (ty : Byte) : (s.finishInit ty).cs = s.cs := rfl
@[simp] theorem finishInit_clk (ty : Byte) : (s.finishInit ty).clk = s.clk := rfl
@[simp] theorem finishInit_pwr (ty : Byte) : (s.finishInit ty).pwr = s.pwr := rfl
@[simp] theorem finishInit_app (ty : Byte) : (s.finishInit ty).app = s.app := rfl
@[simp] theorem finishInit_idx (ty : Byte) : (s.finishInit ty).idx = s.idx := rfl
@[simp] theorem finishInit_arg (ty : Byte) : (s.finishInit ty).arg = s.arg := rfl
@[simp] theorem finishInit_resp (ty : Byte) : (s.finishInit ty).resp = s.resp := rfl
@[simp] theorem finishInit_scr (ty : Byte) : (s.finishInit ty).scr = s.scr := rfl
@[simp] theorem finishInit_n (ty : Byte) : (s.finishInit ty).n = s.n := rfl
@[simp] theorem finishInit_seq (ty : Byte) : (s.finishInit ty).seq = { s.seq with phase := .done ty, ty := ty, micro := .commit } := rfl
@[simp] theorem finishInit_cdPresent (ty : Byte) : (s.finishInit ty).cdPresent = s.cdPresent := rfl
@[simp] theorem finishInit_wpActive (ty : Byte) : (s.finishInit ty).wpActive = s.wpActive := rfl
@[simp] theorem finishInit_requestBuffer (ty : Byte) : (s.finishInit ty).requestBuffer = s.requestBuffer := rfl
@[simp] theorem finishInit_result (ty : Byte) : (s.finishInit ty).result = s.result := rfl
@[simp] theorem finishInit_buffers (ty : Byte) : (s.finishInit ty).buffers = s.buffers := rfl
@[simp] theorem finishInit_trace (ty : Byte) : (s.finishInit ty).trace = s.trace := rfl
@[simp] theorem finishInit_card (ty : Byte) : (s.finishInit ty).card = s.card := rfl
@[simp] theorem finishInit_exchanges (ty : Byte) : (s.finishInit ty).exchanges = s.exchanges := rfl
@[simp] theorem finishInit_agenda (ty : Byte) : (s.finishInit ty).agenda = s.agenda := rfl
@[simp] theorem finishInit_draws (ty : Byte) : (s.finishInit ty).draws = s.draws := rfl
@[simp] theorem finishInit_frees (ty : Byte) : (s.finishInit ty).frees = s.frees := rfl

/-! ### countBlock -/

@[simp] theorem countBlock_stat : (s.countBlock).stat = s.stat := rfl
@[simp] theorem countBlock_ct : (s.countBlock).ct = s.ct := rfl
@[simp] theorem countBlock_tmr1 : (s.countBlock).tmr1 = s.tmr1 := rfl
@[simp] theorem countBlock_tmr2 : (s.countBlock).tmr2 = s.tmr2 := rfl
@[simp] theorem countBlock_cs : (s.countBlock).cs = s.cs := rfl
@[simp] theorem countBlock_clk : (s.countBlock).clk = s.clk := rfl
@[simp] theorem countBlock_pwr : (s.countBlock).pwr = s.pwr := rfl
@[simp] theorem countBlock_app : (s.countBlock).app = s.app := rfl
@[simp] theorem countBlock_idx : (s.countBlock).idx = s.idx := rfl
@[simp] theorem countBlock_arg : (s.countBlock).arg = s.arg := rfl
@[simp] theorem countBlock_resp : (s.countBlock).resp = s.resp := rfl
@[simp] theorem countBlock_scr : (s.countBlock).scr = s.scr := rfl
@[simp] theorem countBlock_n : (s.countBlock).n = BitVec.ofNat 8 (s.seq.owed - 1) := rfl
@[simp] theorem countBlock_seq : (s.countBlock).seq = { s.seq with moved := s.seq.moved + 1, owed := s.seq.owed - 1 } := rfl
@[simp] theorem countBlock_cdPresent : (s.countBlock).cdPresent = s.cdPresent := rfl
@[simp] theorem countBlock_wpActive : (s.countBlock).wpActive = s.wpActive := rfl
@[simp] theorem countBlock_requestBuffer : (s.countBlock).requestBuffer = s.requestBuffer := rfl
@[simp] theorem countBlock_result : (s.countBlock).result = s.result := rfl
@[simp] theorem countBlock_buffers : (s.countBlock).buffers = s.buffers := rfl
@[simp] theorem countBlock_trace : (s.countBlock).trace = s.trace := rfl
@[simp] theorem countBlock_card : (s.countBlock).card = s.card := rfl
@[simp] theorem countBlock_exchanges : (s.countBlock).exchanges = s.exchanges := rfl
@[simp] theorem countBlock_agenda : (s.countBlock).agenda = s.agenda := rfl
@[simp] theorem countBlock_draws : (s.countBlock).draws = s.draws := rfl
@[simp] theorem countBlock_frees : (s.countBlock).frees = s.frees := rfl

/-! ### setOwed -/

@[simp] theorem setOwed_stat (v : Nat) : (s.setOwed v).stat = s.stat := rfl
@[simp] theorem setOwed_ct (v : Nat) : (s.setOwed v).ct = s.ct := rfl
@[simp] theorem setOwed_tmr1 (v : Nat) : (s.setOwed v).tmr1 = s.tmr1 := rfl
@[simp] theorem setOwed_tmr2 (v : Nat) : (s.setOwed v).tmr2 = s.tmr2 := rfl
@[simp] theorem setOwed_cs (v : Nat) : (s.setOwed v).cs = s.cs := rfl
@[simp] theorem setOwed_clk (v : Nat) : (s.setOwed v).clk = s.clk := rfl
@[simp] theorem setOwed_pwr (v : Nat) : (s.setOwed v).pwr = s.pwr := rfl
@[simp] theorem setOwed_app (v : Nat) : (s.setOwed v).app = s.app := rfl
@[simp] theorem setOwed_idx (v : Nat) : (s.setOwed v).idx = s.idx := rfl
@[simp] theorem setOwed_arg (v : Nat) : (s.setOwed v).arg = s.arg := rfl
@[simp] theorem setOwed_resp (v : Nat) : (s.setOwed v).resp = s.resp := rfl
@[simp] theorem setOwed_scr (v : Nat) : (s.setOwed v).scr = s.scr := rfl
@[simp] theorem setOwed_n (v : Nat) : (s.setOwed v).n = s.n := rfl
@[simp] theorem setOwed_seq (v : Nat) : (s.setOwed v).seq = { s.seq with owed := v } := rfl
@[simp] theorem setOwed_cdPresent (v : Nat) : (s.setOwed v).cdPresent = s.cdPresent := rfl
@[simp] theorem setOwed_wpActive (v : Nat) : (s.setOwed v).wpActive = s.wpActive := rfl
@[simp] theorem setOwed_requestBuffer (v : Nat) : (s.setOwed v).requestBuffer = s.requestBuffer := rfl
@[simp] theorem setOwed_result (v : Nat) : (s.setOwed v).result = s.result := rfl
@[simp] theorem setOwed_buffers (v : Nat) : (s.setOwed v).buffers = s.buffers := rfl
@[simp] theorem setOwed_trace (v : Nat) : (s.setOwed v).trace = s.trace := rfl
@[simp] theorem setOwed_card (v : Nat) : (s.setOwed v).card = s.card := rfl
@[simp] theorem setOwed_exchanges (v : Nat) : (s.setOwed v).exchanges = s.exchanges := rfl
@[simp] theorem setOwed_agenda (v : Nat) : (s.setOwed v).agenda = s.agenda := rfl
@[simp] theorem setOwed_draws (v : Nat) : (s.setOwed v).draws = s.draws := rfl
@[simp] theorem setOwed_frees (v : Nat) : (s.setOwed v).frees = s.frees := rfl

/-! ### start -/

@[simp] theorem start_stat (op : HostOp) : (s.start op).stat = s.stat := rfl
@[simp] theorem start_ct (op : HostOp) : (s.start op).ct = s.ct := rfl
@[simp] theorem start_tmr1 (op : HostOp) : (s.start op).tmr1 = s.tmr1 := rfl
@[simp] theorem start_tmr2 (op : HostOp) : (s.start op).tmr2 = s.tmr2 := rfl
@[simp] theorem start_cs (op : HostOp) : (s.start op).cs = s.cs := rfl
@[simp] theorem start_clk (op : HostOp) : (s.start op).clk = s.clk := rfl
@[simp] theorem start_pwr (op : HostOp) : (s.start op).pwr = s.pwr := rfl
@[simp] theorem start_app (op : HostOp) : (s.start op).app = s.app := rfl
@[simp] theorem start_idx (op : HostOp) : (s.start op).idx = s.idx := rfl
@[simp] theorem start_arg (op : HostOp) : (s.start op).arg = s.arg := rfl
@[simp] theorem start_resp (op : HostOp) : (s.start op).resp = s.resp := rfl
@[simp] theorem start_scr (op : HostOp) : (s.start op).scr = s.scr := rfl
@[simp] theorem start_n (op : HostOp) : (s.start op).n = s.n := rfl
@[simp] theorem start_seq (op : HostOp) : (s.start op).seq = { s.seq with busy := true, op := op, site := .main, micro := .rest, addr := 0#32, owed := 0, moved := 0, res := .error, value := none } := rfl
@[simp] theorem start_cdPresent (op : HostOp) : (s.start op).cdPresent = s.cdPresent := rfl
@[simp] theorem start_wpActive (op : HostOp) : (s.start op).wpActive = s.wpActive := rfl
@[simp] theorem start_requestBuffer (op : HostOp) : (s.start op).requestBuffer = s.requestBuffer := rfl
@[simp] theorem start_result (op : HostOp) : (s.start op).result = none := rfl
@[simp] theorem start_buffers (op : HostOp) : (s.start op).buffers = s.buffers := rfl
@[simp] theorem start_trace (op : HostOp) : (s.start op).trace = s.trace := rfl
@[simp] theorem start_card (op : HostOp) : (s.start op).card = s.card := rfl
@[simp] theorem start_exchanges (op : HostOp) : (s.start op).exchanges = s.exchanges := rfl
@[simp] theorem start_agenda (op : HostOp) : (s.start op).agenda = s.agenda := rfl
@[simp] theorem start_draws (op : HostOp) : (s.start op).draws = s.draws := rfl
@[simp] theorem start_frees (op : HostOp) : (s.start op).frees = s.frees := rfl

/-! ### startTransfer -/

@[simp] theorem startTransfer_stat (op : HostOp) (sec : Sector) (c : Byte) : (s.startTransfer op sec c).stat = s.stat := rfl
@[simp] theorem startTransfer_ct (op : HostOp) (sec : Sector) (c : Byte) : (s.startTransfer op sec c).ct = s.ct := rfl
@[simp] theorem startTransfer_tmr1 (op : HostOp) (sec : Sector) (c : Byte) : (s.startTransfer op sec c).tmr1 = s.tmr1 := rfl
@[simp] theorem startTransfer_tmr2 (op : HostOp) (sec : Sector) (c : Byte) : (s.startTransfer op sec c).tmr2 = s.tmr2 := rfl
@[simp] theorem startTransfer_cs (op : HostOp) (sec : Sector) (c : Byte) : (s.startTransfer op sec c).cs = s.cs := rfl
@[simp] theorem startTransfer_clk (op : HostOp) (sec : Sector) (c : Byte) : (s.startTransfer op sec c).clk = s.clk := rfl
@[simp] theorem startTransfer_pwr (op : HostOp) (sec : Sector) (c : Byte) : (s.startTransfer op sec c).pwr = s.pwr := rfl
@[simp] theorem startTransfer_app (op : HostOp) (sec : Sector) (c : Byte) : (s.startTransfer op sec c).app = s.app := rfl
@[simp] theorem startTransfer_idx (op : HostOp) (sec : Sector) (c : Byte) : (s.startTransfer op sec c).idx = s.idx := rfl
@[simp] theorem startTransfer_arg (op : HostOp) (sec : Sector) (c : Byte) : (s.startTransfer op sec c).arg = s.arg := rfl
@[simp] theorem startTransfer_resp (op : HostOp) (sec : Sector) (c : Byte) : (s.startTransfer op sec c).resp = s.resp := rfl
@[simp] theorem startTransfer_scr (op : HostOp) (sec : Sector) (c : Byte) : (s.startTransfer op sec c).scr = s.scr := rfl
@[simp] theorem startTransfer_n (op : HostOp) (sec : Sector) (c : Byte) : (s.startTransfer op sec c).n = s.n := rfl
@[simp] theorem startTransfer_seq (op : HostOp) (sec : Sector) (c : Byte) : (s.startTransfer op sec c).seq = { s.seq with busy := true, op := op, site := .main, micro := .rest, addr := cardAddress s.ct sec, owed := c.toNat, moved := 0, res := .error, value := none } := rfl
@[simp] theorem startTransfer_cdPresent (op : HostOp) (sec : Sector) (c : Byte) : (s.startTransfer op sec c).cdPresent = s.cdPresent := rfl
@[simp] theorem startTransfer_wpActive (op : HostOp) (sec : Sector) (c : Byte) : (s.startTransfer op sec c).wpActive = s.wpActive := rfl
@[simp] theorem startTransfer_requestBuffer (op : HostOp) (sec : Sector) (c : Byte) : (s.startTransfer op sec c).requestBuffer = s.requestBuffer := rfl
@[simp] theorem startTransfer_result (op : HostOp) (sec : Sector) (c : Byte) : (s.startTransfer op sec c).result = none := rfl
@[simp] theorem startTransfer_buffers (op : HostOp) (sec : Sector) (c : Byte) : (s.startTransfer op sec c).buffers = s.buffers := rfl
@[simp] theorem startTransfer_trace (op : HostOp) (sec : Sector) (c : Byte) : (s.startTransfer op sec c).trace = s.trace := rfl
@[simp] theorem startTransfer_card (op : HostOp) (sec : Sector) (c : Byte) : (s.startTransfer op sec c).card = s.card := rfl
@[simp] theorem startTransfer_exchanges (op : HostOp) (sec : Sector) (c : Byte) : (s.startTransfer op sec c).exchanges = s.exchanges := rfl
@[simp] theorem startTransfer_agenda (op : HostOp) (sec : Sector) (c : Byte) : (s.startTransfer op sec c).agenda = s.agenda := rfl
@[simp] theorem startTransfer_draws (op : HostOp) (sec : Sector) (c : Byte) : (s.startTransfer op sec c).draws = s.draws := rfl
@[simp] theorem startTransfer_frees (op : HostOp) (sec : Sector) (c : Byte) : (s.startTransfer op sec c).frees = s.frees := rfl

/-! ### pollExchange -/

@[simp] theorem pollExchange_stat (b : Byte) : (s.pollExchange b).stat = s.stat := rfl
@[simp] theorem pollExchange_ct (b : Byte) : (s.pollExchange b).ct = s.ct := rfl
@[simp] theorem pollExchange_tmr1 (b : Byte) : (s.pollExchange b).tmr1 = s.tmr1 := rfl
@[simp] theorem pollExchange_tmr2 (b : Byte) : (s.pollExchange b).tmr2 = s.tmr2 := rfl
@[simp] theorem pollExchange_cs (b : Byte) : (s.pollExchange b).cs = s.cs := rfl
@[simp] theorem pollExchange_clk (b : Byte) : (s.pollExchange b).clk = s.clk := rfl
@[simp] theorem pollExchange_pwr (b : Byte) : (s.pollExchange b).pwr = s.pwr := rfl
@[simp] theorem pollExchange_app (b : Byte) : (s.pollExchange b).app = s.app := rfl
@[simp] theorem pollExchange_idx (b : Byte) : (s.pollExchange b).idx = s.idx := rfl
@[simp] theorem pollExchange_arg (b : Byte) : (s.pollExchange b).arg = s.arg := rfl
@[simp] theorem pollExchange_resp (b : Byte) : (s.pollExchange b).resp = s.resp := rfl
@[simp] theorem pollExchange_scr (b : Byte) : (s.pollExchange b).scr = s.scr := rfl
@[simp] theorem pollExchange_n (b : Byte) : (s.pollExchange b).n = s.n - 1#8 := rfl
@[simp] theorem pollExchange_seq (b : Byte) : (s.pollExchange b).seq = s.seq := rfl
@[simp] theorem pollExchange_cdPresent (b : Byte) : (s.pollExchange b).cdPresent = s.cdPresent := rfl
@[simp] theorem pollExchange_wpActive (b : Byte) : (s.pollExchange b).wpActive = s.wpActive := rfl
@[simp] theorem pollExchange_requestBuffer (b : Byte) : (s.pollExchange b).requestBuffer = s.requestBuffer := rfl
@[simp] theorem pollExchange_result (b : Byte) : (s.pollExchange b).result = s.result := rfl
@[simp] theorem pollExchange_buffers (b : Byte) : (s.pollExchange b).buffers = s.buffers := rfl
@[simp] theorem pollExchange_trace (b : Byte) : (s.pollExchange b).trace = .exchange Config.fill b :: s.trace := rfl
@[simp] theorem pollExchange_card (b : Byte) : (s.pollExchange b).card = s.card.tail := rfl
@[simp] theorem pollExchange_exchanges (b : Byte) : (s.pollExchange b).exchanges = s.exchanges + 1 := rfl
@[simp] theorem pollExchange_agenda (b : Byte) : (s.pollExchange b).agenda = s.agenda := rfl
@[simp] theorem pollExchange_draws (b : Byte) : (s.pollExchange b).draws = s.draws := rfl
@[simp] theorem pollExchange_frees (b : Byte) : (s.pollExchange b).frees = s.frees := rfl

/-! ### pushEvent -/

@[simp] theorem pushEvent_stat (e : Event) : (s.pushEvent e).stat = s.stat := rfl
@[simp] theorem pushEvent_ct (e : Event) : (s.pushEvent e).ct = s.ct := rfl
@[simp] theorem pushEvent_tmr1 (e : Event) : (s.pushEvent e).tmr1 = s.tmr1 := rfl
@[simp] theorem pushEvent_tmr2 (e : Event) : (s.pushEvent e).tmr2 = s.tmr2 := rfl
@[simp] theorem pushEvent_cs (e : Event) : (s.pushEvent e).cs = s.cs := rfl
@[simp] theorem pushEvent_clk (e : Event) : (s.pushEvent e).clk = s.clk := rfl
@[simp] theorem pushEvent_pwr (e : Event) : (s.pushEvent e).pwr = s.pwr := rfl
@[simp] theorem pushEvent_app (e : Event) : (s.pushEvent e).app = s.app := rfl
@[simp] theorem pushEvent_idx (e : Event) : (s.pushEvent e).idx = s.idx := rfl
@[simp] theorem pushEvent_arg (e : Event) : (s.pushEvent e).arg = s.arg := rfl
@[simp] theorem pushEvent_resp (e : Event) : (s.pushEvent e).resp = s.resp := rfl
@[simp] theorem pushEvent_scr (e : Event) : (s.pushEvent e).scr = s.scr := rfl
@[simp] theorem pushEvent_n (e : Event) : (s.pushEvent e).n = s.n := rfl
@[simp] theorem pushEvent_seq (e : Event) : (s.pushEvent e).seq = s.seq := rfl
@[simp] theorem pushEvent_cdPresent (e : Event) : (s.pushEvent e).cdPresent = s.cdPresent := rfl
@[simp] theorem pushEvent_wpActive (e : Event) : (s.pushEvent e).wpActive = s.wpActive := rfl
@[simp] theorem pushEvent_requestBuffer (e : Event) : (s.pushEvent e).requestBuffer = s.requestBuffer := rfl
@[simp] theorem pushEvent_result (e : Event) : (s.pushEvent e).result = s.result := rfl
@[simp] theorem pushEvent_buffers (e : Event) : (s.pushEvent e).buffers = s.buffers := rfl
@[simp] theorem pushEvent_trace (e : Event) : (s.pushEvent e).trace = s.trace := rfl
@[simp] theorem pushEvent_card (e : Event) : (s.pushEvent e).card = s.card := rfl
@[simp] theorem pushEvent_exchanges (e : Event) : (s.pushEvent e).exchanges = s.exchanges := rfl
@[simp] theorem pushEvent_agenda (e : Event) : (s.pushEvent e).agenda = e :: s.agenda := rfl
@[simp] theorem pushEvent_draws (e : Event) : (s.pushEvent e).draws = s.draws := rfl
@[simp] theorem pushEvent_frees (e : Event) : (s.pushEvent e).frees = s.frees := rfl

/-! ### pushReply -/

@[simp] theorem pushReply_stat (b : Byte) : (s.pushReply b).stat = s.stat := rfl
@[simp] theorem pushReply_ct (b : Byte) : (s.pushReply b).ct = s.ct := rfl
@[simp] theorem pushReply_tmr1 (b : Byte) : (s.pushReply b).tmr1 = s.tmr1 := rfl
@[simp] theorem pushReply_tmr2 (b : Byte) : (s.pushReply b).tmr2 = s.tmr2 := rfl
@[simp] theorem pushReply_cs (b : Byte) : (s.pushReply b).cs = s.cs := rfl
@[simp] theorem pushReply_clk (b : Byte) : (s.pushReply b).clk = s.clk := rfl
@[simp] theorem pushReply_pwr (b : Byte) : (s.pushReply b).pwr = s.pwr := rfl
@[simp] theorem pushReply_app (b : Byte) : (s.pushReply b).app = s.app := rfl
@[simp] theorem pushReply_idx (b : Byte) : (s.pushReply b).idx = s.idx := rfl
@[simp] theorem pushReply_arg (b : Byte) : (s.pushReply b).arg = s.arg := rfl
@[simp] theorem pushReply_resp (b : Byte) : (s.pushReply b).resp = s.resp := rfl
@[simp] theorem pushReply_scr (b : Byte) : (s.pushReply b).scr = s.scr := rfl
@[simp] theorem pushReply_n (b : Byte) : (s.pushReply b).n = s.n := rfl
@[simp] theorem pushReply_seq (b : Byte) : (s.pushReply b).seq = s.seq := rfl
@[simp] theorem pushReply_cdPresent (b : Byte) : (s.pushReply b).cdPresent = s.cdPresent := rfl
@[simp] theorem pushReply_wpActive (b : Byte) : (s.pushReply b).wpActive = s.wpActive := rfl
@[simp] theorem pushReply_requestBuffer (b : Byte) : (s.pushReply b).requestBuffer = s.requestBuffer := rfl
@[simp] theorem pushReply_result (b : Byte) : (s.pushReply b).result = s.result := rfl
@[simp] theorem pushReply_buffers (b : Byte) : (s.pushReply b).buffers = s.buffers := rfl
@[simp] theorem pushReply_trace (b : Byte) : (s.pushReply b).trace = s.trace := rfl
@[simp] theorem pushReply_card (b : Byte) : (s.pushReply b).card = b :: s.card := rfl
@[simp] theorem pushReply_exchanges (b : Byte) : (s.pushReply b).exchanges = s.exchanges := rfl
@[simp] theorem pushReply_agenda (b : Byte) : (s.pushReply b).agenda = s.agenda := rfl
@[simp] theorem pushReply_draws (b : Byte) : (s.pushReply b).draws = s.draws := rfl
@[simp] theorem pushReply_frees (b : Byte) : (s.pushReply b).frees = s.frees := rfl

/-! ### Updates that are other updates -/

@[simp] theorem refuse_eq (c : ResultCode) : s.refuse c = s.answer (.code c none) := rfl
@[simp] theorem close_eq : s.close = s.goto (.deselectLatch .exit) := rfl
theorem send_eq (tx : Byte) : s.send tx = s.exchange tx s.reply := rfl
@[simp] theorem goto_goto (m m' : Micro) : (s.goto m).goto m' = s.goto m' := rfl
theorem reply_cons (b : Byte) (rest : List Byte) (h : s.card = b :: rest) : s.reply = b := by
  simp [State.reply, h]
theorem nextEvent_cons (e : Event) (rest : List Event) (h : s.agenda = e :: rest) : s.nextEvent = e := by
  simp [State.nextEvent, h]
theorem popEvent_cons (e : Event) (rest : List Event) (h : s.agenda = e :: rest) :
    s.popEvent = { s with agenda := rest } := by
  simp [State.popEvent, h]

/-! ### popEvent -/

@[simp] theorem popEvent_stat : s.popEvent.stat = s.stat := by unfold State.popEvent; split <;> rfl
@[simp] theorem popEvent_ct : s.popEvent.ct = s.ct := by unfold State.popEvent; split <;> rfl
@[simp] theorem popEvent_tmr1 : s.popEvent.tmr1 = s.tmr1 := by unfold State.popEvent; split <;> rfl
@[simp] theorem popEvent_tmr2 : s.popEvent.tmr2 = s.tmr2 := by unfold State.popEvent; split <;> rfl
@[simp] theorem popEvent_cs : s.popEvent.cs = s.cs := by unfold State.popEvent; split <;> rfl
@[simp] theorem popEvent_clk : s.popEvent.clk = s.clk := by unfold State.popEvent; split <;> rfl
@[simp] theorem popEvent_pwr : s.popEvent.pwr = s.pwr := by unfold State.popEvent; split <;> rfl
@[simp] theorem popEvent_app : s.popEvent.app = s.app := by unfold State.popEvent; split <;> rfl
@[simp] theorem popEvent_idx : s.popEvent.idx = s.idx := by unfold State.popEvent; split <;> rfl
@[simp] theorem popEvent_arg : s.popEvent.arg = s.arg := by unfold State.popEvent; split <;> rfl
@[simp] theorem popEvent_resp : s.popEvent.resp = s.resp := by unfold State.popEvent; split <;> rfl
@[simp] theorem popEvent_scr : s.popEvent.scr = s.scr := by unfold State.popEvent; split <;> rfl
@[simp] theorem popEvent_n : s.popEvent.n = s.n := by unfold State.popEvent; split <;> rfl
@[simp] theorem popEvent_seq : s.popEvent.seq = s.seq := by unfold State.popEvent; split <;> rfl
@[simp] theorem popEvent_cdPresent : s.popEvent.cdPresent = s.cdPresent := by unfold State.popEvent; split <;> rfl
@[simp] theorem popEvent_wpActive : s.popEvent.wpActive = s.wpActive := by unfold State.popEvent; split <;> rfl
@[simp] theorem popEvent_requestBuffer : s.popEvent.requestBuffer = s.requestBuffer := by unfold State.popEvent; split <;> rfl
@[simp] theorem popEvent_result : s.popEvent.result = s.result := by unfold State.popEvent; split <;> rfl
@[simp] theorem popEvent_buffers : s.popEvent.buffers = s.buffers := by unfold State.popEvent; split <;> rfl
@[simp] theorem popEvent_trace : s.popEvent.trace = s.trace := by unfold State.popEvent; split <;> rfl
@[simp] theorem popEvent_card : s.popEvent.card = s.card := by unfold State.popEvent; split <;> rfl
@[simp] theorem popEvent_exchanges : s.popEvent.exchanges = s.exchanges := by unfold State.popEvent; split <;> rfl
@[simp] theorem popEvent_frees : s.popEvent.frees = s.frees := by unfold State.popEvent; split <;> rfl
@[simp] theorem popEvent_reply : s.popEvent.reply = s.reply := by unfold State.reply; simp

/-! ### taken -/

@[simp] theorem taken_stat : s.taken.stat = s.stat := by
  unfold State.taken State.present; split <;> exact popEvent_stat s
@[simp] theorem taken_ct : s.taken.ct = s.ct := by
  unfold State.taken State.present; split <;> exact popEvent_ct s
@[simp] theorem taken_tmr1 : s.taken.tmr1 = s.tmr1 := by
  unfold State.taken State.present; split <;> exact popEvent_tmr1 s
@[simp] theorem taken_tmr2 : s.taken.tmr2 = s.tmr2 := by
  unfold State.taken State.present; split <;> exact popEvent_tmr2 s
@[simp] theorem taken_cs : s.taken.cs = s.cs := by
  unfold State.taken State.present; split <;> exact popEvent_cs s
@[simp] theorem taken_clk : s.taken.clk = s.clk := by
  unfold State.taken State.present; split <;> exact popEvent_clk s
@[simp] theorem taken_pwr : s.taken.pwr = s.pwr := by
  unfold State.taken State.present; split <;> exact popEvent_pwr s
@[simp] theorem taken_app : s.taken.app = s.app := by
  unfold State.taken State.present; split <;> exact popEvent_app s
@[simp] theorem taken_idx : s.taken.idx = s.idx := by
  unfold State.taken State.present; split <;> exact popEvent_idx s
@[simp] theorem taken_arg : s.taken.arg = s.arg := by
  unfold State.taken State.present; split <;> exact popEvent_arg s
@[simp] theorem taken_resp : s.taken.resp = s.resp := by
  unfold State.taken State.present; split <;> exact popEvent_resp s
@[simp] theorem taken_scr : s.taken.scr = s.scr := by
  unfold State.taken State.present; split <;> exact popEvent_scr s
@[simp] theorem taken_n : s.taken.n = s.n := by
  unfold State.taken State.present; split <;> exact popEvent_n s
@[simp] theorem taken_seq : s.taken.seq = s.seq := by
  unfold State.taken State.present; split <;> exact popEvent_seq s
@[simp] theorem taken_cdPresent : s.taken.cdPresent = s.cdPresent := by
  unfold State.taken State.present; split <;> exact popEvent_cdPresent s
@[simp] theorem taken_wpActive : s.taken.wpActive = s.wpActive := by
  unfold State.taken State.present; split <;> exact popEvent_wpActive s
@[simp] theorem taken_result : s.taken.result = s.result := by
  unfold State.taken State.present; split <;> exact popEvent_result s
@[simp] theorem taken_buffers : s.taken.buffers = s.buffers := by
  unfold State.taken State.present; split <;> exact popEvent_buffers s
@[simp] theorem taken_trace : s.taken.trace = s.trace := by
  unfold State.taken State.present; split <;> exact popEvent_trace s
@[simp] theorem taken_card : s.taken.card = s.card := by
  unfold State.taken State.present; split <;> exact popEvent_card s
@[simp] theorem taken_exchanges : s.taken.exchanges = s.exchanges := by
  unfold State.taken State.present; split <;> exact popEvent_exchanges s
@[simp] theorem taken_frees : s.taken.frees = s.frees := by
  unfold State.taken State.present; split <;> exact popEvent_frees s
@[simp] theorem taken_reply : s.taken.reply = s.reply := by unfold State.reply; simp

end Sys2Proof.Machine.State
end

