-- ==== Sys2Proof/Laws/Sequencer.lean ====
section
/-! SUPPORT. What the returns of the sequencer can do: control flow between two primitives changes `SEQ`, the command
descriptor, `RESP`, `N`, the result port and the count of undefined values drawn, and nothing else. -/

namespace Sys2Proof.Machine

/-- The card address of a sector, in full (R56). -/
theorem cardAddress_eq (ct : Byte) (sector : Sector) :
    cardAddress ct sector = if ct.getLsbD 3 then sector else BitVec.ofNat 32 (sector.toNat * 512) := by
  have h : isBlockAddressed ct = ct.getLsbD 3 := by revert ct; decide
  unfold cardAddress
  rw [h]
  split
  · exact BitVec.setWidth_eq sector
  · apply BitVec.eq_of_toNat_eq
    simp [BitVec.toNat_mul]

/-- A state with everything that control flow may change put to one value. -/
def State.masked (s : State) : State :=
  { s with
    app := false, idx := 0#6, arg := 0#32, resp := 0#8, n := 0#8, seq := .reset, result := none, frees := 0 }

/-- `t` differs from `s` at most by control flow. -/
def ControlOnly (s t : State) : Prop := t.masked = s.masked

namespace ControlOnly

variable {s t u : State}

theorem refl (s : State) : ControlOnly s s := rfl

theorem trans (h : ControlOnly s t) (k : ControlOnly t u) : ControlOnly s u := Eq.trans k h

/-- A field of the masked state is the same before and after. -/
theorem field {α : Type} (h : ControlOnly s t) (f : State → α) : f t.masked = f s.masked := congrArg f h

theorem stat (h : ControlOnly s t) : t.stat = s.stat := h.field State.stat
theorem ct (h : ControlOnly s t) : t.ct = s.ct := h.field State.ct
theorem tmr1 (h : ControlOnly s t) : t.tmr1 = s.tmr1 := h.field State.tmr1
theorem tmr2 (h : ControlOnly s t) : t.tmr2 = s.tmr2 := h.field State.tmr2
theorem cs (h : ControlOnly s t) : t.cs = s.cs := h.field State.cs
theorem clk (h : ControlOnly s t) : t.clk = s.clk := h.field State.clk
theorem pwr (h : ControlOnly s t) : t.pwr = s.pwr := h.field State.pwr
theorem scr (h : ControlOnly s t) : t.scr = s.scr := h.field State.scr
theorem cdPresent (h : ControlOnly s t) : t.cdPresent = s.cdPresent := h.field State.cdPresent
theorem wpActive (h : ControlOnly s t) : t.wpActive = s.wpActive := h.field State.wpActive
theorem requestBuffer (h : ControlOnly s t) : t.requestBuffer = s.requestBuffer := h.field State.requestBuffer
theorem buffers (h : ControlOnly s t) : t.buffers = s.buffers := h.field State.buffers
theorem trace (h : ControlOnly s t) : t.trace = s.trace := h.field State.trace
theorem card (h : ControlOnly s t) : t.card = s.card := h.field State.card
theorem exchanges (h : ControlOnly s t) : t.exchanges = s.exchanges := h.field State.exchanges
theorem agenda (h : ControlOnly s t) : t.agenda = s.agenda := h.field State.agenda
theorem draws (h : ControlOnly s t) : t.draws = s.draws := h.field State.draws

end ControlOnly

/-! ### Each return is control flow -/

variable (s : State)

@[simp] theorem masked_goto (m : Micro) : (s.goto m).masked = s.masked := rfl
@[simp] theorem masked_call (site : Site) (app : Bool) (idx : Index) (arg : Argument) :
    (s.call site app idx arg).masked = s.masked := rfl
@[simp] theorem masked_close : s.close.masked = s.masked := rfl
@[simp] theorem masked_closeWith (c : ResultCode) : (s.closeWith c).masked = s.masked := rfl
@[simp] theorem masked_deliver (r : HostResult) : (s.deliver r).masked = s.masked := rfl
@[simp] theorem masked_answer (r : HostResult) : (s.answer r).masked = s.masked := rfl
@[simp] theorem masked_refuse (c : ResultCode) : (s.refuse c).masked = s.masked := rfl
@[simp] theorem masked_finishInit (ty : Byte) : (s.finishInit ty).masked = s.masked := rfl
@[simp] theorem masked_enterPhase (p : Phase) (m : Micro) : (s.enterPhase p m).masked = s.masked := rfl
@[simp] theorem masked_countBlock : s.countBlock.masked = s.masked := rfl
@[simp] theorem masked_setOwed (v : Nat) : (s.setOwed v).masked = s.masked := rfl
@[simp] theorem masked_stopRead : s.stopRead.masked = s.masked := rfl

@[simp] theorem masked_closeWithValue (v : Option Word32) : (s.closeWithValue v).masked = s.masked := by
  cases v <;> rfl

@[simp] theorem masked_failInit : s.failInit.masked = s.masked := by
  unfold State.failInit; split <;> rfl

@[simp] theorem masked_pollCommand : s.pollCommand.masked = s.masked := by
  unfold State.pollCommand; split
  · rfl
  · split <;> rfl

@[simp] theorem masked_pollSucceeded : s.pollSucceeded.masked = s.masked := by
  unfold State.pollSucceeded; split
  · rfl
  · rfl
  · simp

@[simp] theorem masked_exitOp : s.exitOp.masked = s.masked := by
  unfold State.exitOp; split <;> simp

@[simp] theorem masked_initReturn (r : Byte) : (s.initReturn r).masked = s.masked := by
  unfold State.initReturn
  repeat' split
  all_goals first | rfl | simp

@[simp] theorem masked_initRaw : s.initRaw.masked = s.masked := by
  unfold State.initRaw
  repeat' split
  all_goals simp

@[simp] theorem masked_readReturn (r : Byte) : (s.readReturn r).masked = s.masked := by
  unfold State.readReturn
  repeat' split
  all_goals simp

@[simp] theorem masked_writeReturn (count r : Byte) : (s.writeReturn count r).masked = s.masked := by
  unfold State.writeReturn
  repeat' split
  all_goals simp

@[simp] theorem masked_queryReturn (code r : Byte) : (s.queryReturn code r).masked = s.masked := by
  unfold State.queryReturn
  repeat' split
  all_goals simp

@[simp] theorem masked_operationReturn (r : Byte) : (s.operationReturn r).masked = s.masked := by
  unfold State.operationReturn
  split <;> simp

theorem masked_resp (r : Byte) : ({ s with resp := r } : State).masked = s.masked := rfl

theorem masked_n (n : Byte) : ({ s with n := n } : State).masked = s.masked := rfl

@[simp] theorem masked_commandReturn (pfx : Bool) (r : Byte) : (s.commandReturn pfx r).masked = s.masked := by
  unfold State.commandReturn
  split <;> simp [masked_resp]

@[simp] theorem masked_selectReturn (c : SelectCaller) (selected : Bool) :
    (s.selectReturn c selected).masked = s.masked := by
  unfold State.selectReturn
  repeat' split
  all_goals simp

@[simp] theorem masked_readBlock (count : Byte) (received : Bool) :
    (s.readBlock count received).masked = s.masked := by
  unfold State.readBlock
  repeat' split
  all_goals simp

@[simp] theorem masked_queryBlock (code : Byte) (received : Bool) :
    (s.queryBlock code received).masked = s.masked := by
  unfold State.queryBlock
  repeat' split
  all_goals simp

@[simp] theorem masked_blockInReturn (received : Bool) : (s.blockInReturn received).masked = s.masked := by
  unfold State.blockInReturn
  split <;> simp

@[simp] theorem masked_writeBlock (t : TxToken) (sent : Bool) : (s.writeBlock t sent).masked = s.masked := by
  unfold State.writeBlock
  repeat' split
  all_goals simp

@[simp] theorem masked_blockOutReturn (t : TxToken) (sent : Bool) :
    (s.blockOutReturn t sent).masked = s.masked := by
  unfold State.blockOutReturn
  split <;> simp

@[simp] theorem masked_readyReturn (c : ReadyCaller) (isReady : Bool) :
    (s.readyReturn c isReady).masked = s.masked := by
  unfold State.readyReturn
  repeat' split
  all_goals simp

@[simp] theorem masked_rawReturn : s.rawReturn.masked = s.masked := by
  unfold State.rawReturn
  split <;> simp

@[simp] theorem masked_purgeReturn : s.purgeReturn.masked = s.masked := by
  unfold State.purgeReturn
  split <;> simp

@[simp] theorem masked_finish : s.finish.masked = s.masked := by
  unfold State.finish
  repeat' split
  all_goals simp

@[simp] theorem masked_deselectReturn (c : DeselectCaller) : (s.deselectReturn c).masked = s.masked := by
  unfold State.deselectReturn
  split <;> simp

@[simp] theorem masked_afterPayloadIn (i : Nat) : (s.afterPayloadIn i).masked = s.masked := by
  unfold State.afterPayloadIn
  split <;> simp

@[simp] theorem masked_afterPayloadOut (t : TxToken) (i : Nat) : (s.afterPayloadOut t i).masked = s.masked := by
  unfold State.afterPayloadOut
  split <;> simp

/-- The R7 payload and the OCR are both four bytes (R8). -/
@[simp] theorem rawLen_eq : s.rawLen = 4 := by
  unfold State.rawLen
  split <;> rfl

@[simp] theorem masked_afterRaw (i : Nat) : (s.afterRaw i).masked = s.masked := by
  unfold State.afterRaw
  split <;> simp

@[simp] theorem masked_afterFrameByte (pfx : Bool) (i : Nat) : (s.afterFrameByte pfx i).masked = s.masked := by
  unfold State.afterFrameByte
  repeat' split
  all_goals simp [masked_n]

end Sys2Proof.Machine
end

