-- ==== Sys2Proof/Laws/Wire.lean ====
section
/-! SUPPORT. What taking up a signal comes to, for each port: the decoder's choice and the meaning together. -/

namespace Sys2Proof.Machine

theorem ite_ok {c : Prop} [Decidable c] {x y : Except Reject Instr} {i : Instr} (h : (if c then x else y) = .ok i) :
    c ∧ x = .ok i ∨ ¬c ∧ y = .ok i := by
  by_cases hc : c
  · exact .inl ⟨hc, by rwa [if_pos hc] at h⟩
  · exact .inr ⟨hc, by rwa [if_neg hc] at h⟩

theorem withArg_ok {want arg : Argument} {i j : Instr} (h : withArg want arg j = .ok i) : arg = want ∧ j = i := by
  unfold withArg at h
  rcases ite_ok h with ⟨hw, hj⟩ | ⟨-, hj⟩
  · exact ⟨hw, Except.ok.inj hj⟩
  · cases hj

theorem exec_of_decodeCommand {app : Bool} {idx : Index} {arg : Argument} {i : Instr}
    (h : decodeCommand app idx arg = .ok i) (s : State) : exec i s = s.sendCommand app idx arg := by
  unfold decodeCommand at h
  cases app with
  | true =>
    rw [if_pos rfl] at h
    replace h := ite_ok h
    rcases h with ⟨rfl, h⟩ | ⟨-, h⟩
    · obtain ⟨rfl, rfl⟩ := withArg_ok h; rfl
    replace h := ite_ok h
    rcases h with ⟨rfl, h⟩ | ⟨-, h⟩
    · replace h := ite_ok h
      rcases h with ⟨-, h⟩ | ⟨-, h⟩
      · cases h; rfl
      · cases h
    replace h := ite_ok h
    rcases h with ⟨rfl, h⟩ | ⟨-, h⟩
    · replace h := ite_ok h
      rcases h with ⟨-, h⟩ | ⟨-, h⟩
      · cases h; rfl
      · cases h
    cases h
  | false =>
    rw [if_neg (by decide)] at h
    replace h := ite_ok h
    rcases h with ⟨rfl, h⟩ | ⟨-, h⟩
    · obtain ⟨rfl, rfl⟩ := withArg_ok h; rfl
    replace h := ite_ok h
    rcases h with ⟨rfl, h⟩ | ⟨-, h⟩
    · obtain ⟨rfl, rfl⟩ := withArg_ok h; rfl
    replace h := ite_ok h
    rcases h with ⟨rfl, h⟩ | ⟨-, h⟩
    · obtain ⟨rfl, rfl⟩ := withArg_ok h; rfl
    replace h := ite_ok h
    rcases h with ⟨rfl, h⟩ | ⟨-, h⟩
    · obtain ⟨rfl, rfl⟩ := withArg_ok h; rfl
    replace h := ite_ok h
    rcases h with ⟨rfl, h⟩ | ⟨-, h⟩
    · obtain ⟨rfl, rfl⟩ := withArg_ok h; rfl
    replace h := ite_ok h
    rcases h with ⟨rfl, h⟩ | ⟨-, h⟩
    · obtain ⟨rfl, rfl⟩ := withArg_ok h; rfl
    replace h := ite_ok h
    rcases h with ⟨rfl, h⟩ | ⟨-, h⟩
    · obtain ⟨rfl, rfl⟩ := withArg_ok h; rfl
    replace h := ite_ok h
    rcases h with ⟨rfl, h⟩ | ⟨-, h⟩
    · cases h; rfl
    replace h := ite_ok h
    rcases h with ⟨rfl, h⟩ | ⟨-, h⟩
    · cases h; rfl
    replace h := ite_ok h
    rcases h with ⟨rfl, h⟩ | ⟨-, h⟩
    · cases h; rfl
    replace h := ite_ok h
    rcases h with ⟨rfl, h⟩ | ⟨-, h⟩
    · cases h; rfl
    replace h := ite_ok h
    rcases h with ⟨rfl, h⟩ | ⟨-, h⟩
    · obtain ⟨rfl, rfl⟩ := withArg_ok h; rfl
    replace h := ite_ok h
    rcases h with ⟨rfl, h⟩ | ⟨-, h⟩
    · obtain ⟨rfl, rfl⟩ := withArg_ok h; rfl
    cases h

/-- Every command frame's meaning is the shared one, of the frame's own index and argument. -/
theorem exec_of_decode_frame {app : Bool} {w : FrameWord} {i : Instr} (h : decode (.frame app w) = .ok i) (s : State) :
    exec i s = s.sendCommand app (frameIndex w) (frameArg w) := by
  simp only [decode, decodeFrame] at h
  split_ifs at h
  exact exec_of_decodeCommand h s

theorem takeUp_frame (app : Bool) (idx : Index) (arg : Argument) (s : State) :
    takeUp (.frame app (frameOf idx arg)) s = s.sendCommand app idx arg ∨
      takeUp (.frame app (frameOf idx arg)) s = .refused .commandNotEmitted := by
  unfold takeUp
  cases h : decode (.frame app (frameOf idx arg)) with
  | ok i => exact .inl (by simpa using exec_of_decode_frame h s)
  | error e => exact .inr rfl

theorem takeUp_frame_of_ok {app : Bool} {idx : Index} {arg : Argument} {i : Instr}
    (h : decode (.frame app (frameOf idx arg)) = .ok i) (s : State) :
    takeUp (.frame app (frameOf idx arg)) s = s.sendCommand app idx arg := by
  unfold takeUp
  rw [h]
  simpa using exec_of_decode_frame h s

theorem takeUp_sentToken (k : TxToken) (s : State) : takeUp (.sentToken k.byte) s = s.sendToken k := by
  cases k <;> rfl

theorem takeUp_response (b : Byte) (s : State) :
    takeUp (.response b) s = if validResponse b then s.takeResponse b else s.missResponse b := by
  by_cases h : b.extractLsb' 7 1 = 0#1
  · simp [takeUp, decode, decodeResponse, validResponse, h, exec, execR1Valid, responseByte_of_high h]
  · simp [takeUp, decode, decodeResponse, validResponse, h, State.unmatched]

theorem takeUp_startToken (b : Byte) (s : State) :
    takeUp (.startToken b) s = if b = 0xFE#8 then s.takeStartToken else s.missStartToken b := by
  by_cases h : b = 0xFE#8
  · simp [takeUp, decode, decodeStartToken, h, exec, execTokenRxStart]
  · simp [takeUp, decode, decodeStartToken, h, State.unmatched]

theorem takeUp_readyByte (b : Byte) (s : State) :
    takeUp (.readyByte b) s = if b = 0xFF#8 then s.takeReady else s.missReady b := by
  by_cases h : b = 0xFF#8
  · simp [takeUp, decode, decodeReadyByte, h, exec, execReady]
  · simp [takeUp, decode, decodeReadyByte, h, State.unmatched]

theorem takeUp_dataResponse (b : Byte) (s : State) :
    takeUp (.dataResponse b) s =
      if b.extractLsb' 0 5 = 0b00101#5 then s.takeDataResponse b else s.missDataResponse b := by
  by_cases h : b.extractLsb' 0 5 = 0b00101#5
  · simp [takeUp, decode, decodeDataResponse, (masked_iff_low b).2 h, h, exec, execDataRespAccepted,
      dataResponseByte_of_low h]
  · simp [takeUp, decode, decodeDataResponse, mt (masked_iff_low b).1 h, h, State.unmatched]

end Sys2Proof.Machine
end

