-- ==== Sys2Proof/Laws/Step.lean ====
section
/-! SUPPORT. What one step is, by the move that comes next, and the inversion lemma: everything a step that ends in a next
state can have done to the state outside the sequencer's control flow. -/

namespace Sys2Proof.Machine

variable {s t : State}

/-! ### The step of each move -/

theorem taken_of_ne_request (h : ∀ buffer w, s.nextEvent ≠ .request buffer w) : s.taken = s.popEvent := by
  unfold State.taken
  cases he : s.nextEvent with
  | request buffer w => exact absurd he (h buffer w)
  | _ => rfl

theorem taken_foreground (h : s.nextEvent = .foreground) : s.taken = s.popEvent := by
  simp [State.taken, h, State.present]

theorem taken_request {buffer : Nat} {w : RequestWord} (h : s.nextEvent = .request buffer w) :
    s.taken = { s.popEvent with requestBuffer := buffer } := by
  simp [State.taken, h, State.present]

theorem step_tick (h : s.nextEvent = .tick) : step s = execTick s.popEvent := by
  simp [step, State.taken, State.present, h, State.signal, takeUp, decode, exec]

theorem step_request {buffer : Nat} {w : RequestWord} (h : s.nextEvent = .request buffer w) :
    step s = takeUp (.request w) s.taken := by
  simp [step, h, State.signal]

theorem step_reset (h : s.nextEvent = .reset) : step s = .next s.popEvent.applyReset := by
  simp [step, State.taken, State.present, h, State.signal, State.moveOf]

theorem step_lines {cd wp : Bool} (h : s.nextEvent = .lines cd wp) :
    step s = .next { s.popEvent with cdPresent := cd, wpActive := wp } := by
  simp [step, State.taken, State.present, h, State.signal, State.moveOf]

theorem step_hostWrite {buffer : Nat} {offset : Nat} {b : Byte}
    (h : s.nextEvent = .hostWrite buffer offset b) :
    step s = s.popEvent.hostWrites buffer offset b := by
  simp [step, State.taken, State.present, h, State.signal, State.moveOf]

theorem step_foreground_wire {sig : Signal} (h : s.nextEvent = .foreground)
    (hw : s.popEvent.wireSignal = some sig) : step s = takeUp sig s.popEvent := by
  simp [step, State.taken, State.present, h, State.signal, hw]

theorem step_foreground_primitive (h : s.nextEvent = .foreground) (hb : s.seq.busy = true)
    (hw : s.popEvent.wireSignal = none) : step s = s.popEvent.primitive := by
  simp [step, State.taken, State.present, h, State.signal, hw, State.moveOf, hb]

theorem step_foreground_idle (h : s.nextEvent = .foreground) (hb : s.seq.busy = false) :
    step s = .next s.popEvent := by
  simp [step, State.taken, State.present, h, State.signal, State.wireSignal, State.moveOf, hb]

/-! ### What stands on the wire -/

theorem wireSignal_issue (hb : s.seq.busy = true) (hm : s.seq.micro = .issue) :
    s.wireSignal = some (.frame s.app (frameOf s.idx s.arg)) := by
  simp [State.wireSignal, hb, hm]

theorem wireSignal_token {k : TxToken} (hb : s.seq.busy = true) (hm : s.seq.micro = .token k) :
    s.wireSignal = some (.sentToken k.byte) := by
  simp [State.wireSignal, hb, hm]

theorem wireSignal_response {pfx : Bool} (hb : s.seq.busy = true) (hm : s.seq.micro = .response pfx) :
    s.wireSignal = some (.response s.reply) := by
  simp [State.wireSignal, hb, hm]

theorem wireSignal_tokenPoll (hb : s.seq.busy = true) (hm : s.seq.micro = .tokenPoll) :
    s.wireSignal = some (.startToken s.reply) := by
  simp [State.wireSignal, hb, hm]

theorem wireSignal_readyPoll {c : ReadyCaller} (hb : s.seq.busy = true) (hm : s.seq.micro = .readyPoll c) :
    s.wireSignal = some (.readyByte s.reply) := by
  simp [State.wireSignal, hb, hm]

theorem wireSignal_dataResponse {k : TxToken} (hb : s.seq.busy = true) (hm : s.seq.micro = .dataResponse k) :
    s.wireSignal = some (.dataResponse s.reply) := by
  simp [State.wireSignal, hb, hm]

/-! ### What one step can have done -/

/-- The possible effects of a step on the state outside control flow; `p` is the state in which the move is made. -/
inductive StepChange (s p t : State) : Prop where
  /-- Only control flow, or nothing. -/
  | control (h : ControlOnly p t)
  /-- One exchange. -/
  | bus (tx rx : Byte) (event : s.nextEvent = .foreground) (busy : s.seq.busy = true)
      (h : ControlOnly (p.exchange tx rx) t)
  /-- One exchange of a payload byte into the operation's host buffer. -/
  | busStore (i offset : Nat) (event : s.nextEvent = .foreground) (busy : s.seq.busy = true)
      (micro : s.seq.micro = .payloadIn i) (place : s.seq.op.payloadOffset s.seq.moved i = some offset)
      (bound : offset < Config.bufferSize)
      (h : ControlOnly ((p.exchange Config.fill p.reply).store s.seq.op.buffer offset p.reply) t)
  /-- One exchange of a byte into `SCR`. -/
  | busScr (tx rx : Byte) (i : Nat) (event : s.nextEvent = .foreground) (busy : s.seq.busy = true)
      (h : ControlOnly ((p.exchange tx rx).setScr i rx) t)
  /-- One exchange of a raw OCR byte into `SCR` and the operation's host buffer. -/
  | busScrStore (i : Nat) (event : s.nextEvent = .foreground) (busy : s.seq.busy = true) (micro : s.seq.micro = .rawIn i)
      (op : ∃ pdrv code, s.seq.op = .ioctl pdrv code s.seq.op.buffer) (bound : i < Config.bufferSize)
      (h : ControlOnly (((p.exchange Config.fill p.reply).setScr i p.reply).store s.seq.op.buffer i p.reply) t)
  /-- `IOCTL.GET_TYPE` stores `CT`. -/
  | storeType (buffer : Nat) (w : RequestWord) (event : s.nextEvent = .request buffer w)
      (idle : s.seq.busy = false) (h : ControlOnly (p.store p.requestBuffer 0 p.ct) t)
  /-- `SetCS`. -/
  | chipSelect (level : ChipSelect) (event : s.nextEvent = .foreground) (busy : s.seq.busy = true)
      (h : ControlOnly (p.setCs level) t)
  /-- `SetClk`. -/
  | clock (speed : ClockSpeed) (event : s.nextEvent = .foreground) (busy : s.seq.busy = true)
      (micro : s.seq.micro = .clockSlow ∧ speed = .slow ∨ s.seq.micro = .clockFast ∧ speed = .fast)
      (h : ControlOnly (p.setClk speed) t)
  /-- `SetPwr(on)`, by the acceptance of `INITIALIZE`. -/
  | powerOn (buffer : Nat) (w : RequestWord) (event : s.nextEvent = .request buffer w)
      (idle : s.seq.busy = false) (h : ControlOnly (p.setPwr .on) t)
  /-- `SetPwr(off)`. -/
  | powerOff (event : s.nextEvent = .foreground) (busy : s.seq.busy = true) (micro : s.seq.micro = .powerOff)
      (h : ControlOnly (p.setPwr .off) t)
  /-- `TMR1` is armed. -/
  | arm1 (v : Counter) (event : s.nextEvent = .foreground) (busy : s.seq.busy = true)
      (micro : s.seq.micro = .tokenArm ∧ v = Config.tToken ∨ s.seq.micro = .armNegotiation ∧ v = Config.tInit)
      (h : ControlOnly (p.arm1 v) t)
  /-- `TMR2` is armed. -/
  | arm2 (event : s.nextEvent = .foreground) (busy : s.seq.busy = true) (micro : ∃ c, s.seq.micro = .readyArm c)
      (h : ControlOnly (p.arm2 Config.tReady) t)
  /-- `INITIALIZE` writes `NotInitialized`. -/
  | markStatus (b : Bool) (event : s.nextEvent = .foreground) (busy : s.seq.busy = true)
      (micro : s.seq.micro = .markReady ∧ b = false ∨ s.seq.micro = .markFailed ∧ b = true)
      (h : ControlOnly (p.setNotInitialized b) t)
  /-- `INITIALIZE` commits `CT`. -/
  | commit (event : s.nextEvent = .foreground) (busy : s.seq.busy = true) (micro : s.seq.micro = .commit)
      (h : ControlOnly ({ p with ct := s.seq.ty } : State) t)
  /-- `TICK`. -/
  | tick (event : s.nextEvent = .tick) (h : execTick p = .next t)
  /-- Reset. -/
  | reset (event : s.nextEvent = .reset) (h : t = p.applyReset)
  /-- The signal sources. -/
  | lines (cd wp : Bool) (event : s.nextEvent = .lines cd wp)
      (h : t = ({ p with cdPresent := cd, wpActive := wp } : State))
  /-- The host writes one of its buffers. -/
  | hostWrite (buffer : Nat) (offset : Nat) (b : Byte) (event : s.nextEvent = .hostWrite buffer offset b)
      (idle : s.seq.busy = false) (bound : offset < Config.bufferSize) (h : t = p.store buffer offset b)

/-- A request's effect outside control flow: none, `SetPwr(on)` (R150), or the byte of `GET_TYPE` (R195). -/
inductive RequestChange (p t : State) : Prop where
  | control (h : ControlOnly p t)
  | powerOn (h : ControlOnly (p.setPwr .on) t)
  | storeType (h : ControlOnly (p.store p.requestBuffer 0 p.ct) t)

theorem whenIdle_next {p : State} {body : Result} (h : p.whenIdle body = .next t) :
    p.seq.busy = false ∧ body = .next t := by
  unfold State.whenIdle at h
  split at h
  · cases h
  · next hb => exact ⟨by simpa using hb, h⟩

theorem ioctlGate_change {p : State} {pdrv : Byte} {body : Result} (h : p.ioctlGate pdrv body = .next t)
    (hb : body = .next t → RequestChange p t) : p.seq.busy = false ∧ RequestChange p t := by
  obtain ⟨hi, h⟩ := whenIdle_next h
  refine ⟨hi, ?_⟩
  split at h
  · cases h; exact .control rfl
  · split at h
    · cases h; exact .control rfl
    · exact hb h

theorem masked_startQuery (p : State) (pdrv code : Byte) (app : Bool) (idx : Index) :
    (p.startQuery pdrv code app idx).masked = p.masked := rfl

theorem execRead_change {p : State} {pdrv : Byte} {sector : Sector} {count : Byte}
    (h : execRead pdrv sector count p = .next t) : p.seq.busy = false ∧ RequestChange p t := by
  obtain ⟨hi, h⟩ := whenIdle_next h
  refine ⟨hi, .control ?_⟩
  split at h
  · cases h; rfl
  · split at h
    · cases h; rfl
    · split at h
      · cases h
      · cases h; rfl

theorem masked_startWrite (p : State) (sector : Sector) (count : Byte) :
    (p.startWrite sector count).masked = p.masked := by
  unfold State.startWrite
  repeat' split
  all_goals rfl

theorem execWrite_change {p : State} {pdrv : Byte} {sector : Sector} {count : Byte}
    (h : execWrite pdrv sector count p = .next t) : p.seq.busy = false ∧ RequestChange p t := by
  obtain ⟨hi, h⟩ := whenIdle_next h
  refine ⟨hi, .control ?_⟩
  split at h
  · cases h; rfl
  · split at h
    · cases h; rfl
    · split at h
      · cases h; rfl
      · split at h
        · cases h
        · cases h; exact masked_startWrite _ _ _

theorem execIoctl_change {p : State} {pdrv code : Byte} (h : exec (decodeIoctl pdrv code) p = .next t) :
    p.seq.busy = false ∧ RequestChange p t := by
  unfold decodeIoctl at h
  split at h
  · exact ioctlGate_change h fun h => by cases h; exact .control rfl
  split at h
  · exact ioctlGate_change h fun h => by cases h; exact .control rfl
  split at h
  · refine ioctlGate_change h fun h => ?_
    split at h <;> cases h <;> exact .control rfl
  split at h
  · exact ioctlGate_change h fun h => by cases h; exact .storeType rfl
  split at h
  · exact ioctlGate_change h fun h => by cases h; exact .control rfl
  split at h
  · exact ioctlGate_change h fun h => by cases h; exact .control rfl
  split at h
  · exact ioctlGate_change h fun h => by cases h; exact .control rfl
  split at h
  · refine ioctlGate_change h fun h => ?_
    split at h <;> cases h <;> exact .control rfl
  · exact ioctlGate_change h fun h => by cases h; exact .control rfl

theorem takeUp_request_change {p : State} {w : RequestWord} (h : takeUp (.request w) p = .next t) :
    p.seq.busy = false ∧ RequestChange p t := by
  simp only [takeUp, decode, decodeRequest] at h
  split at h
  · next i hd =>
    split at hd
    · cases hd; obtain ⟨hi, h⟩ := whenIdle_next h; cases h; exact ⟨hi, .control rfl⟩
    split at hd
    · cases hd
      obtain ⟨hi, h⟩ := whenIdle_next h
      split at h <;> cases h
      · exact ⟨hi, .control rfl⟩
      · exact ⟨hi, .powerOn rfl⟩
    split at hd
    · cases hd; exact execRead_change h
    split at hd
    · cases hd; exact execWrite_change h
    split at hd
    · cases hd; exact execIoctl_change h
    · cases hd
  · cases h

/-- The effect of a primitive (R11), by the place at which the sequencer stands. -/
theorem primitive_change {p : State} (he : s.nextEvent = .foreground) (hb : s.seq.busy = true)
    (hq : p.seq = s.seq) (h : p.primitive = .next t) : StepChange s p t := by
  unfold State.primitive at h
  rw [hq] at h
  split at h
  case h_1 => cases h; exact .control rfl
  case h_2 hm => cases h; exact .clock .slow he hb (.inl ⟨hm, rfl⟩) rfl
  case h_3 =>
    split at h <;> cases h
    · exact .bus _ _ he hb rfl
    · exact .bus _ _ he hb rfl
  case h_4 => cases h; exact .chipSelect .deasserted he hb rfl
  case h_5 => cases h; exact .bus _ _ he hb (masked_deselectReturn _ _)
  case h_6 => cases h; exact .chipSelect .asserted he hb rfl
  case h_7 => cases h; exact .bus _ _ he hb rfl
  case h_8 c hm => cases h; exact .arm2 he hb ⟨c, hm⟩ rfl
  case h_9 =>
    split at h <;> cases h
    · exact .control (masked_readyReturn _ _ _)
    · exact .control rfl
  case h_10 => cases h; exact .bus _ _ he hb (masked_afterFrameByte _ _ _)
  case h_11 => cases h; exact .bus _ _ he hb rfl
  case h_12 hm => cases h; exact .arm1 _ he hb (.inl ⟨hm, rfl⟩) rfl
  case h_13 =>
    split at h <;> cases h
    · exact .control (masked_blockInReturn _ _)
    · exact .control rfl
  case h_14 i hm =>
    unfold State.payloadInStep at h
    rw [hq] at h
    split at h
    · next off ho =>
      split at h
      · next hlt =>
        cases h
        exact .busStore i off he hb hm ho hlt (masked_afterPayloadIn _ _)
      · cases h
    · cases h
      exact .busScr _ _ i he hb (masked_afterPayloadIn _ _)
  case h_15 =>
    split at h <;> cases h
    · exact .bus _ _ he hb (masked_blockInReturn _ _)
    · exact .bus _ _ he hb rfl
  case h_16 =>
    unfold State.payloadOutStep at h
    split at h
    · cases h; exact .bus _ _ he hb (masked_afterPayloadOut _ _ _)
    · cases h
  case h_17 => split at h <;> cases h <;> exact .bus _ _ he hb rfl
  case h_18 i hm =>
    unfold State.rawInStep at h
    rw [hq] at h
    split at h
    · next pdrv code buffer hop =>
      split at h
      · next hlt =>
        cases h
        have hbuf : s.seq.op.buffer = buffer := by rw [hop]; rfl
        subst hbuf
        exact .busScrStore i he hb hm ⟨pdrv, code, hop⟩ hlt (masked_afterRaw _ _)
      · cases h
    · cases h; exact .busScr _ _ i he hb (masked_afterRaw _ _)
  case h_19 => cases h; exact .bus _ _ he hb rfl
  case h_20 =>
    split at h <;> cases h
    · exact .bus _ _ he hb (masked_purgeReturn _)
    · exact .bus _ _ he hb rfl
  case h_21 hm => cases h; exact .arm1 _ he hb (.inr ⟨hm, rfl⟩) rfl
  case h_22 =>
    split at h <;> cases h
    · exact .control (masked_failInit _)
    · exact .control (masked_pollCommand _)
  case h_23 =>
    split at h
    · cases h; exact .control (masked_pollSucceeded _)
    · split at h <;> cases h
      · exact .control (masked_pollSucceeded _)
      · exact .control (masked_failInit _)
  case h_24 hm => cases h; exact .commit he hb hm rfl
  case h_25 hm => cases h; exact .markStatus false he hb (.inl ⟨hm, rfl⟩) rfl
  case h_26 hm => cases h; exact .clock .fast he hb (.inr ⟨hm, rfl⟩) rfl
  case h_27 hm => cases h; exact .powerOff he hb hm rfl
  case h_28 hm => cases h; exact .markStatus true he hb (.inr ⟨hm, rfl⟩) rfl
  case h_29 => cases h; exact .control rfl
  all_goals cases h

/-- The effect of what is taken up from the wire. -/
theorem takeUp_wire_change {p : State} {sig : Signal} (he : s.nextEvent = .foreground) (hb : s.seq.busy = true)
    (hw : p.wireSignal = some sig) (h : takeUp sig p = .next t) : StepChange s p t := by
  unfold State.wireSignal at hw
  split at hw
  · split at hw
    · cases hw
      rcases takeUp_frame p.app p.idx p.arg p with hf | hf
      · rw [hf] at h
        unfold State.sendCommand at h
        split at h
        · cases h
          unfold State.startCommand
          split
          · exact .bus _ _ he hb rfl
          · exact .chipSelect .deasserted he hb rfl
        · cases h
      · rw [hf] at h; cases h
    · cases hw
      rw [takeUp_sentToken] at h
      unfold State.sendToken at h
      split at h
      · split at h <;> cases h
        · exact .bus _ _ he hb (masked_blockOutReturn _ _ _)
        · exact .bus _ _ he hb rfl
      · cases h
    · cases hw
      rw [takeUp_response] at h
      split at h
      · unfold State.takeResponse at h
        split at h
        · split at h <;> cases h <;> exact .bus Config.fill p.reply he hb (masked_commandReturn _ _ _)
        · cases h
      · unfold State.missResponse at h
        split at h
        · split at h <;> cases h
          · exact .bus Config.fill p.reply he hb (masked_commandReturn _ _ _)
          · exact .bus Config.fill p.reply he hb rfl
        · cases h
    · cases hw
      rw [takeUp_startToken] at h
      split at h
      · unfold State.takeStartToken at h
        split at h <;> cases h
        exact .bus _ _ he hb rfl
      · unfold State.missStartToken at h
        split at h <;> cases h
        · exact .bus _ _ he hb rfl
        · exact .bus _ _ he hb (masked_blockInReturn _ _)
    · cases hw
      rw [takeUp_readyByte] at h
      split at h
      · unfold State.takeReady at h
        split at h
        · split at h <;> cases h <;> exact .bus _ _ he hb (masked_readyReturn _ _ _)
        · cases h
      · unfold State.missReady at h
        split at h <;> cases h
        exact .bus _ _ he hb rfl
    · cases hw
      rw [takeUp_dataResponse] at h
      split at h
      · unfold State.takeDataResponse at h
        split at h
        · split at h <;> cases h <;> exact .bus _ _ he hb (masked_blockOutReturn _ _ _)
        · cases h
      · unfold State.missDataResponse at h
        split at h <;> cases h
        exact .bus _ _ he hb (masked_blockOutReturn _ _ _)
    · cases hw
  · cases hw

/-- What one step can do. -/
theorem step_cases (h : step s = .next t) : StepChange s s.taken t := by
  cases he : s.nextEvent with
  | tick =>
    rw [taken_of_ne_request (by simp [he])]
    rw [step_tick he] at h
    exact .tick he h
  | reset =>
    rw [taken_of_ne_request (by simp [he])]
    rw [step_reset he] at h
    cases h
    exact .reset he rfl
  | lines cd wp =>
    rw [taken_of_ne_request (by simp [he])]
    rw [step_lines he] at h
    cases h
    exact .lines cd wp he rfl
  | hostWrite buffer offset b =>
    rw [taken_of_ne_request (by simp [he])]
    rw [step_hostWrite he] at h
    unfold State.hostWrites at h
    split at h
    · cases h
    · next hb =>
      split at h
      · next hlt => cases h; exact .hostWrite buffer offset b he (by simpa using hb) hlt rfl
      · cases h
  | request buffer w =>
    rw [step_request he] at h
    obtain ⟨hi, hc⟩ := takeUp_request_change h
    have hi : s.seq.busy = false := by simpa [taken_request he] using hi
    cases hc with
    | control h => exact .control h
    | powerOn h => exact .powerOn buffer w he hi h
    | storeType h => exact .storeType buffer w he hi h
  | foreground =>
    rw [taken_foreground he]
    cases hb : s.seq.busy with
    | false => rw [step_foreground_idle he hb] at h; cases h; exact .control rfl
    | true =>
      cases hw : s.popEvent.wireSignal with
      | some sig => rw [step_foreground_wire he hw] at h; exact takeUp_wire_change he hb hw h
      | none =>
        rw [step_foreground_primitive he hb hw] at h
        exact primitive_change he hb (by simp) h

/-! ## Runs -/

@[simp] theorem runFor_zero (s : State) : runFor 0 s = .next s := rfl

theorem runFor_succ (k : Nat) (s : State) :
    runFor (k + 1) s =
      match step s with
      | .next t => runFor k t
      | .fault f => .fault f
      | .refused r => .refused r := rfl

theorem runFor_succ_of_next {k : Nat} {s t : State} (h : step s = .next t) : runFor (k + 1) s = runFor k t := by
  rw [runFor_succ, h]

/-- Two runs in a row. -/
theorem runFor_add (j k : Nat) {s t : State} (h : runFor j s = .next t) : runFor (j + k) s = runFor k t := by
  induction j generalizing s with
  | zero => cases h; simp
  | succ j ih =>
    rw [Nat.succ_add, runFor_succ]
    rw [runFor_succ] at h
    cases hs : step s with
    | next u => simp only [hs] at h ⊢; exact ih h
    | fault f => simp [hs] at h
    | refused r => simp [hs] at h

end Sys2Proof.Machine
end

