-- ==== Sys2Proof/Tests/Slice0.lean ====
section
/-! SUPPORT. The model's own tests: ill-formed terms refused, every constructor's word decoded, one step of each
instruction against the spec's examples, and a state that meets the hypotheses of each statement. The words and numbers
are the spec's (spec/30_encoding.md, spec/opcode_table.json, and the Example lines of the rules named beside them). -/

namespace Sys2Proof.Tests

open Sys2Proof.Machine

/-- An Idle, initialized drive with an SD-v2 byte-addressed card (`CT = 0x04`). -/
def ready : State := { State.reset with stat := ⟨false, false, false⟩, ct := 0x04#8, pwr := .on, clk := .fast }

/-- The same drive running `op`, about to perform `m`, the card selected and answering `0xFF`. -/
def running (op : HostOp) (m : Micro) : State :=
  { ready with
    cs := .asserted, card := [0xFF#8]
    seq := { Seq.reset with busy := true, op := op, micro := m, owed := 1, ty := 0x02#8 } }

/-- A running `INITIALIZE` in a phase. -/
def negotiating (p : Phase) (m : Micro) : State :=
  { running (.initializeDrive 0#8) m with
    seq := { (running (.initializeDrive 0#8) m).seq with phase := p } }

/-- The next move. -/
def moving (e : Event) (s : State) : State := { s with agenda := [e] }

/-- The card's next answer. -/
def answered (b : Byte) (s : State) : State := { s with card := [b] }

/-- The result is a next state of which `p` holds. -/
def nextIs (r : Result) (p : State → Bool) : Bool :=
  match r with
  | .next t => p t
  | .fault _ => false
  | .refused _ => false

/-- The word decodes to the instruction. -/
def decodesTo (sig : Signal) (i : Instr) : Bool := decode sig == .ok i

/-! ## Ill-formed terms -/

theorem test_wellFormed_acmd23 : Instr.WellFormed (.acmd23 256#32) = false := by decide
theorem test_wellFormed_acmd41 : Instr.WellFormed (.acmd41 1#32) = false := by decide
theorem test_wellFormed_ioctlUnrecognized : Instr.WellFormed (.ioctlUnrecognized 0#8 7#8) = false := by decide

/-! ## Words (R71 to R82, R87, R90, R91) -/

theorem test_decode_cmd0 : decodesTo (.frame false 0x400000000095#48) .cmd0 = true := by decide
theorem test_decode_cmd1 : decodesTo (.frame false 0x410000000001#48) .cmd1 = true := by decide
theorem test_decode_cmd8 : decodesTo (.frame false 0x48000001AA87#48) .cmd8 = true := by decide
theorem test_decode_cmd9 : decodesTo (.frame false 0x490000000001#48) .cmd9 = true := by decide
theorem test_decode_cmd10 : decodesTo (.frame false 0x4A0000000001#48) .cmd10 = true := by decide
theorem test_decode_cmd12 : decodesTo (.frame false 0x4C0000000001#48) .cmd12 = true := by decide
theorem test_decode_acmd13 : decodesTo (.frame true 0x4D0000000001#48) .acmd13 = true := by decide
theorem test_decode_cmd16 : decodesTo (.frame false 0x500000020001#48) .cmd16 = true := by decide
theorem test_decode_cmd17 : decodesTo (.frame false 0x510000060001#48) (.cmd17 0x600#32) = true := by decide
theorem test_decode_cmd18 : decodesTo (.frame false 0x520000000801#48) (.cmd18 8#32) = true := by decide
theorem test_decode_acmd23 : decodesTo (.frame true 0x570000000501#48) (.acmd23 5#32) = true := by decide
theorem test_decode_cmd24 : decodesTo (.frame false 0x580000000001#48) (.cmd24 0#32) = true := by decide
theorem test_decode_cmd25 : decodesTo (.frame false 0x590002000001#48) (.cmd25 0x20000#32) = true := by decide
theorem test_decode_acmd41 : decodesTo (.frame true 0x694000000001#48) (.acmd41 0x40000000#32) = true := by decide
theorem test_decode_cmd55 : decodesTo (.frame false 0x770000000001#48) .cmd55 = true := by decide
theorem test_decode_cmd58 : decodesTo (.frame false 0x7A0000000001#48) .cmd58 = true := by decide
theorem test_decode_tokenRxStart : decodesTo (.startToken 0b11111110#8) .tokenRxStart = true := by decide
theorem test_decode_tokenStartBlock : decodesTo (.sentToken 0b11111110#8) .tokenStartBlock = true := by decide
theorem test_decode_tokenMultiWrite : decodesTo (.sentToken 0b11111100#8) .tokenMultiWrite = true := by decide
theorem test_decode_tokenStopTran : decodesTo (.sentToken 0b11111101#8) .tokenStopTran = true := by decide
theorem test_decode_r1Valid : decodesTo (.response 0b01000001#8) (.r1Valid 0b1000001#7) = true := by decide
theorem test_decode_dataRespAccepted :
    decodesTo (.dataResponse 0b11100101#8) (.dataRespAccepted 0b111#3) = true := by decide
theorem test_decode_ready : decodesTo (.readyByte 0b11111111#8) .ready = true := by decide
theorem test_decode_status : decodesTo (.request 0x0AB000000000000#59) (.status 0xAB#8) = true := by decide
theorem test_decode_initializeDrive : decodesTo (.request 0x100000000000000#59) (.initializeDrive 0#8) = true := by
  decide
theorem test_decode_read :
    decodesTo (.request 0x21289ABCDEF8000#59) (.read 0x12#8 0x89ABCDEF#32 0x80#8) = true := by decide
theorem test_decode_write :
    decodesTo (.request 0x30000000100057F#59) (.write 0#8 0x100#32 5#8) = true := by decide
theorem test_decode_ioctlSync : decodesTo (.request 0x400000000000000#59) (.ioctlSync 0#8) = true := by decide
theorem test_decode_ioctlGetSectorCount :
    decodesTo (.request 0x400000000000001#59) (.ioctlGetSectorCount 0#8) = true := by decide
theorem test_decode_ioctlGetBlockSize :
    decodesTo (.request 0x400000000000002#59) (.ioctlGetBlockSize 0#8) = true := by decide
theorem test_decode_ioctlGetType : decodesTo (.request 0x400000000000003#59) (.ioctlGetType 0#8) = true := by decide
theorem test_decode_ioctlGetCsd : decodesTo (.request 0x400000000000004#59) (.ioctlGetCsd 0#8) = true := by decide
theorem test_decode_ioctlGetCid : decodesTo (.request 0x400000000000005#59) (.ioctlGetCid 0#8) = true := by decide
theorem test_decode_ioctlGetOcr : decodesTo (.request 0x400000000000006#59) (.ioctlGetOcr 0#8) = true := by decide
theorem test_decode_ioctlGetSdstat : decodesTo (.request 0x401000000000007#59) (.ioctlGetSdstat 1#8) = true := by
  decide
theorem test_decode_ioctlUnrecognized :
    decodesTo (.request 0x4000000000000C8#59) (.ioctlUnrecognized 0#8 200#8) = true := by decide
theorem test_decode_tick : decodesTo (.event 0b1#1) .tick = true := by decide

/-- An app-command and a plain command with one frame (R77). -/
theorem test_decode_plain41 : (decode (.frame false 0x690000000001#48) == .error .commandIndex) = true := by decide

/-- A CRC byte the block never sends (R88). -/
theorem test_decode_crc : (decode (.frame false 0x400000000001#48) == .error .frameCrc) = true := by decide

theorem test_tableWord_cmd8 : decodeTableWord 48 0x48000001AA87 = some .cmd8 := by decide
theorem test_tableWord_acmd41 : decodeTableWord 48 0x690000000001 = some (.acmd41 0#32) := by decide
theorem test_tableWord_write : decodeTableWord 59 0x300000000000100 = some (.write 0#8 0#32 1#8) := by decide
theorem test_tableWord_ready : decodeTableWord 8 0xFF = some .ready := by decide

/-! ## Operands -/

/-- R56: sector 3 on a byte-addressed and on a Block-Addressed card, and the wrap of R252. -/
theorem test_cardAddress : cardAddress 0x04#8 3#32 = 0x600#32 ∧ cardAddress 0x0C#8 3#32 = 3#32 ∧
    cardAddress 0x01#8 0x800001#32 = 0x200#32 := by decide

/-- R187's example: `C_SIZE` = 7563. -/
theorem test_sectorCount :
    sectorCount #v[0x40#8, 0#8, 0#8, 0#8, 0#8, 0#8, 0#8, 0x00#8, 0x1D#8, 0x8B#8, 0#8, 0#8, 0#8, 0#8, 0#8, 0#8] =
      some 7745536#32 := by decide

/-- R187 corner case (b): the wrap to 0. -/
theorem test_sectorCount_wrap :
    sectorCount #v[0x40#8, 0#8, 0#8, 0#8, 0#8, 0#8, 0#8, 0x3F#8, 0xFF#8, 0xFF#8, 0#8, 0#8, 0#8, 0#8, 0#8, 0#8] =
      some 0#32 := by decide

/-- R188's example. -/
theorem test_eraseSizeSd2 :
    eraseSizeSd2 #v[0#8, 0#8, 0#8, 0#8, 0#8, 0#8, 0#8, 0#8, 0#8, 0#8, 0x90#8, 0#8, 0#8, 0#8, 0#8, 0#8] = 8192#32 := by
  decide

/-- R189's example. -/
theorem test_eraseSizeSd1 :
    eraseSizeSd1 #v[0#8, 0#8, 0#8, 0#8, 0#8, 0#8, 0#8, 0#8, 0#8, 0#8, 0x3F#8, 0x80#8, 0#8, 0x40#8, 0#8, 0#8] =
      some 128#32 := by decide

/-- R190's example. -/
theorem test_eraseSizeMmc :
    eraseSizeMmc #v[0#8, 0#8, 0#8, 0#8, 0#8, 0#8, 0#8, 0#8, 0#8, 0#8, 0x7C#8, 0xE3#8, 0#8, 0#8, 0#8, 0#8] =
      1024#32 := by decide

/-- R210, D6: the numbers of the result codes. -/
theorem test_resultNumbers :
    [ResultCode.ok, .error, .writeProtected, .notReady, .paramError].map ResultCode.number =
      [0#3, 1#3, 2#3, 3#3, 4#3] := by decide

/-! ## One step of each instruction -/

/-- The descriptor a command writes, and its first bus event. -/
def begins (i : Instr) (app : Bool) (idx : Index) (arg : Argument) : Bool :=
  nextIs (exec i (running (.initializeDrive 0#8) .issue)) fun t =>
    t.app == app && t.idx == idx && t.arg == arg && t.trace == [.chipSelect .deasserted]

theorem test_cmd0 : begins .cmd0 false 0#6 0#32 = true := by decide
theorem test_cmd1 : begins .cmd1 false 1#6 0#32 = true := by decide
theorem test_cmd8 : begins .cmd8 false 8#6 0x1AA#32 = true := by decide
theorem test_cmd9 : begins .cmd9 false 9#6 0#32 = true := by decide
theorem test_cmd10 : begins .cmd10 false 10#6 0#32 = true := by decide
theorem test_acmd13 : begins .acmd13 true 13#6 0#32 = true := by decide
theorem test_cmd16 : begins .cmd16 false 16#6 512#32 = true := by decide
theorem test_cmd17 : begins (.cmd17 0x600#32) false 17#6 0x600#32 = true := by decide
theorem test_cmd18 : begins (.cmd18 8#32) false 18#6 8#32 = true := by decide
theorem test_acmd23 : begins (.acmd23 5#32) true 23#6 5#32 = true := by decide
theorem test_cmd24 : begins (.cmd24 0#32) false 24#6 0#32 = true := by decide
theorem test_cmd25 : begins (.cmd25 0x20000#32) false 25#6 0x20000#32 = true := by decide
theorem test_acmd41 : begins (.acmd41 0x40000000#32) true 41#6 0x40000000#32 = true := by decide
theorem test_cmd55 : begins .cmd55 false 55#6 0#32 = true := by decide
theorem test_cmd58 : begins .cmd58 false 58#6 0#32 = true := by decide

/-- R114's example: `CMD12` begins with `X 4c>ff`, no `CS` event before it. -/
theorem test_cmd12 : nextIs (exec .cmd12 (running (.read 0#8 0#32 2#8 0) .issue))
    (fun t => t.trace == [.exchange 0x4C#8 0xFF#8] && t.cs == .asserted) = true := by decide

/-- R140: the token is accepted; R141's examples of the sent tokens. -/
theorem test_tokenRxStart : nextIs (exec .tokenRxStart (answered 0xFE#8 (running (.read 0#8 0#32 1#8 0) .tokenPoll)))
    (fun t => t.trace == [.exchange 0xFF#8 0xFE#8] && t.seq.micro == .payloadIn 0) = true := by decide
theorem test_tokenStartBlock : nextIs (exec .tokenStartBlock (running (.write 0#8 0#32 1#8 0) (.token .startBlock)))
    (fun t => t.trace == [.exchange 0xFE#8 0xFF#8] && t.seq.micro == .payloadOut .startBlock 0) = true := by decide
theorem test_tokenMultiWrite : nextIs (exec .tokenMultiWrite (running (.write 0#8 0#32 2#8 0) (.token .multiWrite)))
    (fun t => t.trace == [.exchange 0xFC#8 0xFF#8] && t.seq.micro == .payloadOut .multiWrite 0) = true := by decide
theorem test_tokenStopTran : nextIs (exec .tokenStopTran (running (.write 0#8 0#32 2#8 0) (.token .stopTran)))
    (fun t => t.trace == [.exchange 0xFD#8 0xFF#8] && t.seq.micro == .deselectLatch .exit) = true := by decide

/-- R115: `CMD0` is accepted iff answered 1; 0 is a failure. -/
theorem test_r1Valid_cmd0_idle : nextIs (exec (.r1Valid 1#7) (negotiating .reset (.response false)))
    (fun t => t.seq.micro == .armNegotiation && t.resp == 0x01#8) = true := by decide
theorem test_r1Valid_cmd0_zero : nextIs (exec (.r1Valid 0#7) (negotiating .reset (.response false)))
    (fun t => t.seq.phase == .failed && t.seq.ty == 0x00#8) = true := by decide

/-- R141: `0xE5` is accepted, and the sector is moved. -/
theorem test_dataRespAccepted :
    nextIs (exec (.dataRespAccepted 0b111#3) (running (.write 0#8 0#32 1#8 0) (.dataResponse .startBlock)))
      (fun t => t.trace == [.exchange 0xFF#8 0xE5#8] && t.seq.owed == 0) = true := by decide

/-- R107, R110: the frame follows the ready byte. -/
theorem test_ready : nextIs (exec .ready (running (.read 0#8 0#32 1#8 0) (.readyPoll (.select (.command false)))))
    (fun t => t.trace == [.exchange 0xFF#8 0xFF#8] && t.seq.micro == .frame false 0) = true := by decide

/-- R198: the example, and another drive. -/
theorem test_status : nextIs (exec (.status 0#8) ready) (fun t => t.result == some (.status 0x00#8)) = true := by
  decide
theorem test_status_otherDrive :
    nextIs (exec (.status 1#8) ready) (fun t => t.result == some (.status 0x01#8)) = true := by decide

/-- R150: the example's first event; another drive leaves the bus alone. -/
theorem test_initializeDrive : nextIs (exec (.initializeDrive 0#8) ready)
    (fun t => t.trace == [.power .on] && t.seq.phase == .reset) = true := by decide
theorem test_initializeDrive_otherDrive : nextIs (exec (.initializeDrive 1#8) ready)
    (fun t => t.trace == [] && t.result == some (.status 0x01#8)) = true := by decide

/-- R170's example: sector 3, byte-addressed. -/
theorem test_read : nextIs (exec (.read 0#8 3#32 1#8) ready) (fun t => t.idx == 17#6 && t.arg == 0x600#32) = true := by
  decide
theorem test_read_multiple : nextIs (exec (.read 0#8 8#32 128#8) ready) (fun t => t.idx == 18#6 && t.seq.owed == 128) =
    true := by decide

/-- R218's example: a zero count is told before the protected, uninitialized drive; R172: the hint. -/
theorem test_write_zeroCount : nextIs (exec (.write 0#8 0#32 0#8) { ready with stat := ⟨true, false, true⟩ })
    (fun t => t.result == some (.code .paramError none)) = true := by decide
theorem test_write_hint : nextIs (exec (.write 0#8 0#32 5#8) ready)
    (fun t => t.app && t.idx == 23#6 && t.arg == 5#32) = true := by decide

theorem test_ioctlSync : nextIs (exec (.ioctlSync 0#8) ready) (fun t => t.seq.micro == .selectLatch .sync) = true := by
  decide
theorem test_ioctlGetSectorCount : nextIs (exec (.ioctlGetSectorCount 0#8) ready) (fun t => t.idx == 9#6) = true := by
  decide
theorem test_ioctlGetBlockSize : nextIs (exec (.ioctlGetBlockSize 0#8) ready) (fun t => t.app && t.idx == 13#6) =
    true := by decide
theorem test_ioctlGetType : nextIs (exec (.ioctlGetType 0#8) ready) (fun t => Memory.read t.buffers 0 == 0x04#8) =
    true := by decide
/-- R29, R90: the byte goes to the buffer that the request names, and to no other. -/
theorem test_ioctlGetType_buffer : nextIs (step (moving (.request 7 0x400000000000003#59) ready))
    (fun t => t.load 7 0 == 0x04#8 && t.load 0 0 == 0x00#8 && t.seq.op == .ioctl 0#8 3#8 7) = true := by decide
theorem test_ioctlGetCsd : nextIs (exec (.ioctlGetCsd 0#8) ready) (fun t => !t.app && t.idx == 9#6) = true := by decide
theorem test_ioctlGetCid : nextIs (exec (.ioctlGetCid 0#8) ready) (fun t => t.idx == 10#6) = true := by decide
theorem test_ioctlGetOcr : nextIs (exec (.ioctlGetOcr 0#8) ready) (fun t => t.idx == 58#6) = true := by decide

/-- R193's example: on an SD-v1 card only the closing `DESELECT`, with `Error`. -/
theorem test_ioctlGetSdstat_sd1 : nextIs (exec (.ioctlGetSdstat 0#8) { ready with ct := 0x02#8 })
    (fun t => t.seq.micro == .deselectLatch .exit && t.seq.res == .error) = true := by decide

/-- R218's example: code 200 on an uninitialized drive; R196 on an initialized one. -/
theorem test_ioctlUnrecognized_notReady :
    nextIs (exec (.ioctlUnrecognized 0#8 200#8) { ready with stat := ⟨true, false, false⟩ })
      (fun t => t.result == some (.code .notReady none)) = true := by decide
theorem test_ioctlUnrecognized : nextIs (exec (.ioctlUnrecognized 0#8 200#8) ready)
    (fun t => t.seq.micro == .deselectLatch .exit && t.seq.res == .paramError) = true := by decide

/-- R205's example. -/
theorem test_tick : nextIs (exec .tick { ready with tmr1 := 1#16, tmr2 := 0#16, cdPresent := false, wpActive := true })
    (fun t => t.tmr1 == 0#16 && t.tmr2 == 0#16 && t.stat.toByte == 0x07#8) = true := by decide

/-! ## Hypotheses that something meets

For each statement with hypotheses a concrete state and operands that meet them together, and for each clause a value at
the edge of its range. -/

theorem test_witness_ResetEvent : (moving .reset (running (.read 0#8 0#32 1#8 0) (.payloadIn 7))).nextEvent = .reset := rfl

/-- StatusOperation, ParamErrorGates (both causes), InitializeBegins (both drives), InitializeSilentCard. -/
theorem test_witness_idle : ready.seq.busy = false ∧ (1#8 ≠ 0#8 ∨ 1#8 = 0#8) ∧ (0#8 ≠ 0#8 ∨ 0#8 = 0#8) ∧
    (255#8 : Byte) ≠ 0#8 := by decide

theorem test_witness_NotReadyGates :
    let s : State := { ready with stat := ⟨true, false, true⟩ }
    s.seq.busy = false ∧ s.stat.notInitialized = true ∧ (1#8 : Byte) ≠ 0#8 := by decide

theorem test_witness_WriteProtectedGate :
    let s : State := { ready with stat := ⟨false, false, true⟩ }
    s.driveReady ∧ s.stat.writeProtected = true ∧ (255#8 : Byte) ≠ 0#8 := ⟨⟨rfl, rfl⟩, rfl, by decide⟩

/-- RequestsRefused: a Busy state; a Ready one with a count of 129. -/
theorem test_witness_RequestsRefused : (running (.read 0#8 0#32 1#8 0) .stuff).seq.busy = true ∧ ready.driveReady ∧
    128 < (129#8 : Byte).toNat ∧ ready.stat.writeProtected = false := ⟨rfl, ⟨rfl, rfl⟩, by decide, rfl⟩

/-- ReadBegins, WriteBegins at counts 1 and 128; QueriesBegin, PlainControlsBegin, SyncRun. -/
theorem test_witness_ready : ready.driveReady ∧ ready.stat.writeProtected = false ∧
    (1 ≤ (1#8 : Byte).toNat ∧ (1#8 : Byte).toNat ≤ 128) ∧ 1 ≤ (128#8 : Byte).toNat ∧ (128#8 : Byte).toNat ≤ 128 :=
  ⟨⟨rfl, rfl⟩, rfl, by decide⟩

theorem test_witness_BufferCanonical : BufferCanonical ready := rfl

/-- PlainCommandBegins, AppCommandBegins, StopCommandBegins. -/
theorem test_witness_issue : (running (.read 0#8 0#32 2#8 0) .issue).standsAt .issue := ⟨rfl, rfl⟩

/-- StopCommandBegins: the run of the whole `CMD12`. -/
theorem test_witness_StopCommandBegins :
    let s : State := { running (.read 0#8 0#32 2#8 0) .issue with idx := 12#6 }
    s.standsAt .issue ∧ s.app = false ∧ s.idx = 12#6 ∧ s.arg = 0#32 := ⟨⟨rfl, rfl⟩, rfl, rfl, rfl⟩

/-- CommandTransaction: a plain command, a prefix, and the target after it. -/
theorem test_witness_CommandTransaction :
    let s : State := { running (.initializeDrive 0#8) .issue with idx := 8#6, arg := 0x1AA#32 }
    let a (m : Micro) : State := { running (.initializeDrive 0#8) m with app := true, idx := 41#6 }
    s.standsAt .issue ∧ s.app = false ∧ s.idx ≠ 12#6 ∧ decodesTo (.frame false (frameOf s.idx s.arg)) .cmd8 = true ∧
    (a .issue).standsAt .issue ∧ (a .issue).app = true ∧ (a .issue).idx ≠ 12#6 ∧
    decodesTo (.frame true (frameOf (a .issue).idx (a .issue).arg)) (.acmd41 0#32) = true ∧
    (a (.deselectLatch (.command false))).standsAt (.deselectLatch (.command false)) :=
  ⟨⟨rfl, rfl⟩, rfl, by decide, by decide, ⟨rfl, rfl⟩, rfl, by decide, by decide, ⟨rfl, rfl⟩⟩

/-- ResponsePollBounded: answered at once, at the tenth exchange, and not at all. -/
theorem test_witness_ResponsePollBounded :
    let s : State := { running (.read 0#8 0#32 1#8 0) (.response false) with n := 10#8 }
    s.standsAt (.response false) ∧ s.n = 10#8 ∧
      ([] : List Byte).length < 9 ∧ (0x00#8 : Byte).getLsbD 7 = false ∧
      (List.replicate 9 0xFF#8).length = 9 ∧ ∀ b ∈ List.replicate 9 (0xFF#8 : Byte), b.getLsbD 7 = true :=
  ⟨⟨rfl, rfl⟩, rfl, by decide⟩

theorem test_witness_PrefixDecides :
    (running (.write 0#8 0#32 2#8 0) (.response true)).standsAt (.response true) := ⟨rfl, rfl⟩

/-- PrefixDecides, TransferResponses, NegotiationResponses: both ways `SENDCMD` ends without a valid response, in the prefix
and in the target, for each kind of operation. -/
theorem test_witness_endsInvalid (op : HostOp) (pfx : Bool) :
    (∃ s u : State, s.endsInvalid pfx u ∧ s.standsAt (.response pfx) ∧ s.seq.op = op) ∧
    (∃ s u : State, s.endsInvalid pfx u ∧ s.standsAt (.deselectDummy (.selectFailed (.command pfx))) ∧ s.seq.op = op) :=
  ⟨⟨{ moving .foreground (running op (.response pfx)) with n := 1#8 }, _,
      ⟨rfl, .inl ⟨⟨rfl, rfl⟩, rfl, (by decide : (0xFF#8 : Byte).getLsbD 7 = true), rfl⟩⟩, ⟨rfl, rfl⟩, rfl⟩,
    ⟨moving .foreground (running op (.deselectDummy (.selectFailed (.command pfx)))), _,
      ⟨rfl, .inr ⟨⟨rfl, rfl⟩, rfl⟩⟩, ⟨rfl, rfl⟩, rfl⟩⟩

/-- TransferResponses: a command and a `CMD12` of `READ`, a command and the hint of `WRITE`, an `IOCTL`. -/
theorem test_witness_TransferResponses :
    let q (op : HostOp) (site : Site) : State :=
      { running op (.response false) with seq := { (running op (.response false)).seq with site := site } }
    (q (.read 0#8 0#32 2#8 0) .stop).standsAt (.response false) ∧
      (q (.read 0#8 0#32 2#8 0) .stop).seq.op = .read 0#8 0#32 2#8 0 ∧
    (q (.write 0#8 0#32 1#8 0) .main).standsAt (.response false) ∧
      (q (.write 0#8 0#32 1#8 0) .main).seq.op = .write 0#8 0#32 1#8 0 ∧
      (q (.write 0#8 0#32 1#8 0) .main).seq.site ≠ .hint ∧
    (q (.write 0#8 0#32 2#8 0) .hint).standsAt (.response false) ∧
      (q (.write 0#8 0#32 2#8 0) .hint).seq.op = .write 0#8 0#32 2#8 0 ∧
      (q (.write 0#8 0#32 2#8 0) .hint).seq.site = .hint ∧
    (q (.ioctl 0#8 7#8 0) .main).standsAt (.response false) ∧ (q (.ioctl 0#8 7#8 0) .main).seq.op = .ioctl 0#8 7#8 0 :=
  ⟨⟨rfl, rfl⟩, rfl, ⟨rfl, rfl⟩, rfl, by decide, ⟨rfl, rfl⟩, rfl, rfl, ⟨rfl, rfl⟩, rfl⟩

/-- NegotiationResponses: each phase, and both sites where they matter. -/
theorem test_witness_NegotiationResponses :
    (negotiating .reset (.response false)).standsAt (.response false) ∧
      (negotiating .reset (.response false)).seq.op = .initializeDrive 0#8 ∧
      (negotiating .reset (.response false)).seq.phase = .reset ∧
      (negotiating .interfaceCheck (.response false)).seq.phase = .interfaceCheck ∧
      (negotiating .v2Negotiate (.response false)).seq.phase = .v2Negotiate ∧
      (negotiating .v2Negotiate (.response false)).seq.site ≠ .poll ∧
      (negotiating .v1MmcNegotiate (.response false)).seq.phase = .v1MmcNegotiate ∧
      (negotiating .v1MmcNegotiate (.response false)).seq.site ≠ .poll ∧
      (negotiating .blockLengthSet (.response false)).seq.phase = .blockLengthSet ∧
      ({ (negotiating .v2Negotiate (.response false)).seq with site := Site.poll } : Seq).site = .poll :=
  ⟨⟨rfl, rfl⟩, rfl, rfl, rfl, rfl, by decide, rfl, by decide, rfl, rfl⟩

/-- ReadyWait: each place, the counter at 1 and at 0, a busy byte, and the four callers. -/
theorem test_witness_ReadyWait :
    let s (k : ReadyCaller) (m : Micro) : State :=
      { moving .foreground (answered 0x00#8 (running (.write 0#8 0#32 2#8 0) m)) with
        tmr2 := if k = .select .sync then 1#16 else 0#16 }
    (s (.select .sync) (.readyArm (.select .sync))).nextEvent = .foreground ∧
    (s (.select .sync) (.readyArm (.select .sync))).standsAt (.readyArm (.select .sync)) ∧
    (s (.select .sync) (.readyPoll (.select .sync))).standsAt (.readyPoll (.select .sync)) ∧
    (s (.select .sync) (.readyPoll (.select .sync))).reply ≠ 0xFF#8 ∧
    (s (.select .sync) (.readyTest (.select .sync))).tmr2 ≠ 0#16 ∧
    (s (.block .stopTran) (.readyTest (.block .stopTran))).tmr2 = 0#16 ∧
    (s (.block .stopTran) (.readyTest (.block .stopTran))).seq.op = .write 0#8 0#32 2#8 0 :=
  ⟨rfl, ⟨rfl, rfl⟩, ⟨rfl, rfl⟩, by decide, by decide, by decide, rfl⟩

theorem test_witness_ReadyTaken :
    (running (.read 0#8 0#32 1#8 0) (.readyPoll (.select (.command true)))).standsAt
      (.readyPoll (.select (.command true))) ∧
    (running (.write 0#8 0#32 1#8 0) (.readyPoll (.block .startBlock))).standsAt (.readyPoll (.block .startBlock)) ∧
    (running (.ioctl 0#8 0#8 0) (.readyPoll (.select .sync))).standsAt (.readyPoll (.select .sync)) ∧
    (running (.ioctl 0#8 0#8 0) (.readyPoll (.select .sync))).seq.op = .ioctl 0#8 0#8 0 :=
  ⟨⟨rfl, rfl⟩, ⟨rfl, rfl⟩, ⟨rfl, rfl⟩, rfl⟩

/-- TokenWait: each place, both failures, and the three callers. -/
theorem test_witness_TokenWait :
    let s (op : HostOp) (b : Byte) (m : Micro) : State := moving .foreground (answered b (running op m))
    (s (.read 0#8 0#32 1#8 0) 0xFF#8 .tokenArm).nextEvent = .foreground ∧
    (s (.read 0#8 0#32 1#8 0) 0xFF#8 .tokenArm).standsAt .tokenArm ∧
    (s (.read 0#8 0#32 1#8 0) 0xFF#8 .tokenPoll).standsAt .tokenPoll ∧
    (s (.read 0#8 0#32 1#8 0) 0xFF#8 .tokenPoll).reply = 0xFF#8 ∧
    (s (.read 0#8 0#32 1#8 0) 0xFD#8 .tokenPoll).reply ≠ 0xFF#8 ∧
    (s (.read 0#8 0#32 1#8 0) 0xFD#8 .tokenPoll).reply ≠ 0xFE#8 ∧
    (s (.read 0#8 0#32 2#8 0) 0xFF#8 .tokenTest).tmr1 = 0#16 ∧ (2#8 : Byte) ≠ 1#8 ∧
    ({ s (.ioctl 0#8 4#8 0) 0xFF#8 .tokenTest with tmr1 := 1#16 } : State).tmr1 ≠ 0#16 ∧
    (s (.ioctl 0#8 7#8 0) 0x00#8 .discard).standsAt .discard :=
  ⟨rfl, ⟨rfl, rfl⟩, ⟨rfl, rfl⟩, rfl, by decide, by decide, rfl, by decide, by decide, ⟨rfl, rfl⟩⟩

/-- BlockReceived: the last sector of 128 into buffer 3, one of several owed, a single sector, a register, the SD status. -/
theorem test_witness_BlockReceived :
    let s (op : HostOp) (moved owed : Nat) : State :=
      { running op .tokenPoll with seq := { (running op .tokenPoll).seq with moved := moved, owed := owed } }
    (s (.read 0#8 0#32 128#8 3) 127 1).standsAt .tokenPoll ∧ BufferCanonical (s (.read 0#8 0#32 128#8 3) 127 1) ∧
    (s (.read 0#8 0#32 128#8 3) 127 1).seq.op = .read 0#8 0#32 128#8 3 ∧
    (s (.read 0#8 0#32 128#8 3) 127 1).seq.moved < 128 ∧ (s (.read 0#8 0#32 128#8 3) 127 1).seq.owed ≤ 1 ∧
    2 ≤ (s (.read 0#8 0#32 2#8 3) 0 2).seq.owed ∧ (2#8 : Byte) ≠ 1#8 ∧
    (s (.read 0#8 0#32 1#8 0) 0 1).seq.op = .read 0#8 0#32 1#8 0 ∧
    (List.replicate 512 (0#8 : Byte)).length = 512 ∧
    (s (.ioctl 0#8 5#8 0) 0 0).seq.op = .ioctl 0#8 5#8 0 ∧ (List.replicate 16 (0#8 : Byte)).length = 16 ∧
    (s (.ioctl 0#8 7#8 0) 0 0).seq.op = .ioctl 0#8 7#8 0 ∧ (List.replicate 64 (0#8 : Byte)).length = 64 :=
  ⟨⟨rfl, rfl⟩, rfl, rfl, by decide, by decide, by decide, by decide, rfl, List.length_replicate, rfl,
    List.length_replicate, rfl, List.length_replicate⟩

theorem test_witness_TokensSent :
    (running (.write 0#8 0#32 1#8 0) (.token .startBlock)).standsAt (.token .startBlock) ∧
    (running (.write 0#8 0#32 2#8 0) (.token .multiWrite)).standsAt (.token .multiWrite) ∧
    (running (.write 0#8 0#32 2#8 0) (.token .stopTran)).standsAt (.token .stopTran) ∧
    (running (.write 0#8 0#32 2#8 0) (.token .stopTran)).seq.op = .write 0#8 0#32 2#8 0 :=
  ⟨⟨rfl, rfl⟩, ⟨rfl, rfl⟩, ⟨rfl, rfl⟩, rfl⟩

theorem test_witness_BlockSent :
    let s := running (.write 0#8 0#32 1#8 0) (.payloadOut .startBlock 0)
    s.standsAt (.payloadOut .startBlock 0) ∧ s.seq.moved < 128 ∧ (List.replicate 514 (0xFF#8 : Byte)).length = 514 :=
  ⟨⟨rfl, rfl⟩, by decide, List.length_replicate⟩

/-- DataResponse: both tokens, accepted and not (`0x0B`, R81). -/
theorem test_witness_DataResponse :
    let s (t : TxToken) : State :=
      moving .foreground (answered 0x0B#8 (running (.write 0#8 0#32 2#8 0) (.dataResponse t)))
    (s .startBlock).seq.op = .write 0#8 0#32 2#8 0 ∧ (s .startBlock).standsAt (.dataResponse .startBlock) ∧
    (s .multiWrite).standsAt (.dataResponse .multiWrite) ∧ (s .multiWrite).nextEvent = .foreground ∧
    (s .multiWrite).reply.extractLsb' 0 5 ≠ 0b00101#5 := ⟨rfl, ⟨rfl, rfl⟩, ⟨rfl, rfl⟩, rfl, by decide⟩

theorem test_witness_RawBytesReceived :
    (negotiating .interfaceCheck (.rawIn 0)).standsAt (.rawIn 0) ∧
    BufferCanonical (negotiating .interfaceCheck (.rawIn 0)) ∧
    (negotiating .interfaceCheck (.rawIn 0)).seq.op = .initializeDrive 0#8 ∧
    (negotiating .interfaceCheck (.rawIn 0)).seq.phase = .interfaceCheck ∧
    (negotiating .v2Negotiate (.rawIn 0)).seq.phase = .v2Negotiate ∧
    (running (.ioctl 0#8 6#8 0) (.rawIn 0)).seq.op = .ioctl 0#8 6#8 0 := ⟨⟨rfl, rfl⟩, rfl, rfl, rfl, rfl, rfl⟩

/-- SectorCountDelivered: version 1; version 0 with exponents 9 and 8. -/
theorem test_witness_SectorCountDelivered :
    (running (.ioctl 0#8 1#8 0) .tokenPoll).standsAt .tokenPoll ∧
    (running (.ioctl 0#8 1#8 0) .tokenPoll).seq.op = .ioctl 0#8 1#8 0 ∧
    1 ≤ (0x40#8 : Byte).toNat / 64 ∧ (0x3F#8 : Byte).toNat / 64 = 0 ∧
    9 ≤ (0x07#8 : Byte).toNat % 16 + 0 / 128 + (0 % 4) * 2 + 2 ∧
    (0x06#8 : Byte).toNat % 16 + 0 / 128 + (0 % 4) * 2 + 2 < 9 := ⟨⟨rfl, rfl⟩, rfl, by decide⟩

/-- EraseSizeOfSd2, and EraseSizeOfCsd on an SD-v1 card (shift by 0, and by -1) and on an MMC card. -/
theorem test_witness_EraseSizes :
    let s := running (.ioctl 0#8 2#8 0) .tokenPoll
    s.standsAt .tokenPoll ∧ s.seq.op = .ioctl 0#8 2#8 0 ∧ s.ct.getLsbD 2 = true ∧
    (List.replicate 50 (0#8 : Byte)).length = 50 ∧
    (0x02#8 : Byte).getLsbD 2 = false ∧ (0x02#8 : Byte).getLsbD 1 = true ∧ 1 ≤ (0x40#8 : Byte).toNat / 64 ∧
    (0x3F#8 : Byte).toNat / 64 = 0 ∧ (0x01#8 : Byte).getLsbD 2 = false ∧ (0x01#8 : Byte).getLsbD 1 = false :=
  ⟨⟨rfl, rfl⟩, rfl, by decide, List.length_replicate, by decide⟩

/-- CountersSaturate: two ticks next; an arm of each counter raises it. -/
theorem test_witness_CountersSaturate :
    ({ ready with agenda := [.tick, .tick, .reset] } : State).agenda = List.replicate 2 .tick ++ [.reset] ∧
    nextIs (step (moving .foreground (running (.read 0#8 0#32 1#8 0) .tokenArm)))
      (fun t => t.tmr1 == 100#16 && t.tmr1 != 0#16) = true ∧
    nextIs (step (moving .foreground (running (.read 0#8 0#32 1#8 0) (.readyArm (.select .sync)))))
      (fun t => t.tmr2 == 500#16) = true := ⟨rfl, by decide, by decide⟩

/-- StatusWriters: the flag cleared, set by a tick, another flag changed, and both inputs driven. -/
theorem test_witness_StatusWriters :
    nextIs (step (moving .foreground { negotiating (.done 0x04#8) .markReady with stat := ⟨true, false, false⟩ }))
      (fun t => !t.stat.notInitialized) = true ∧
    nextIs (step (moving .tick ready)) (fun t => t.stat.notInitialized && t.stat.noCard) = true ∧
    nextIs (step (moving (.lines true true) ready)) (fun t => t.cdPresent && t.wpActive) = true := by decide

/-- LatchWriters: each write of `CT` and the latches happens. -/
theorem test_witness_LatchWriters :
    nextIs (step (moving .foreground (negotiating (.done 0x02#8) .commit))) (fun t => t.ct == 0x02#8) = true ∧
    nextIs (step (moving .foreground (negotiating .reset .clockSlow))) (fun t => t.clk == .slow) = true ∧
    nextIs (step (moving (.request 0 0x100000000000000#59) { ready with pwr := .off })) (fun t => t.pwr == .on) = true ∧
    nextIs (step (moving .foreground (negotiating .failed .powerOff))) (fun t => t.pwr == .off) = true ∧
    nextIs (step (moving .foreground { running (.ioctl 0#8 0#8 0) (.selectLatch .sync) with cs := .deasserted }))
      (fun t => t.cs == .asserted) = true ∧
    nextIs (step (moving .foreground (running (.ioctl 0#8 0#8 0) (.deselectLatch .exit))))
      (fun t => t.cs == .deasserted) = true ∧
    nextIs (step (moving .foreground { running (.ioctl 0#8 4#8 0) .issue with idx := 9#6 }))
      (fun t => t.cs == .deasserted && t.seq.micro == .deselectDummy (.command false)) = true := by decide

/-- OneBusEvent and BufferWriters: a step that exchanges and stores a payload byte, a raw byte, and the host's own write of
the last byte of buffer 1. -/
theorem test_witness_BufferWriters :
    nextIs (step (moving .foreground (running (.read 0#8 0#32 1#8 0) (.payloadIn 3))))
      (fun t => t.buffers == [(3, 0xFF#8)] && t.trace == [.exchange 0xFF#8 0xFF#8]) = true ∧
    nextIs (step (moving .foreground (running (.ioctl 0#8 6#8 1) (.rawIn 3)))) (fun t => t.load 1 3 == 0xFF#8) = true ∧
    nextIs (step (moving (.hostWrite 1 65535 1#8) ready)) (fun t => t.buffers == [(131071, 1#8)]) = true := by decide

theorem test_witness_DecodeEncode : Instr.WellFormed (.acmd23 255#32) = true ∧
    Instr.WellFormed (.acmd41 0x40000000#32) = true ∧ Instr.WellFormed (.ioctlUnrecognized 0#8 8#8) = true := by decide

/-- ReservedRejected: a value under each clause. -/
theorem test_witness_ReservedRejected : frameStart 0x800000000001#48 ≠ 0b01#2 ∧
    (63#6 : Index) ∉ [0#6, 1#6, 8#6, 9#6, 10#6, 12#6, 13#6, 16#6, 17#6, 18#6, 23#6, 24#6, 25#6, 41#6, 55#6, 58#6] ∧
    ((0xFB#8 : Byte) ≠ 0xFE#8 ∧ (0xFB#8 : Byte) ≠ 0xFC#8 ∧ (0xFB#8 : Byte) ≠ 0xFD#8) ∧
    (0x80#8 : Byte).getLsbD 7 = true ∧ (0x0B#8 : Byte).extractLsb' 0 5 ≠ 0b00101#5 ∧ 5#3 ≤ (5#3 : BitVec 3) := by
  decide

theorem test_witness_StepRunsDecoded :
    let s := moving .foreground (answered 0xFF#8 (running (.ioctl 0#8 0#8 0) (.readyPoll (.select .sync))))
    s.taken.signal s.nextEvent = some (.readyByte 0xFF#8) ∧ decodesTo (.readyByte 0xFF#8) .ready = true :=
  ⟨rfl, by decide⟩

/-- PhaseTransitions: a move along an edge, and the two edges of `BlockLengthSet` to `Done`. -/
theorem test_witness_PhaseTransitions :
    let s := moving .foreground (negotiating .reset .armNegotiation)
    PhaseCoherent s ∧ s.nextEvent = .foreground ∧ s.seq.op = .initializeDrive 0#8 ∧
    nextIs (step s) (fun t => t.seq.phase == .interfaceCheck && t.tmr1 == 1000#16) = true := by
  refine ⟨⟨?_, ?_, ?_, ?_, ?_, ?_⟩, rfl, rfl, by decide⟩ <;>
    simp [moving, negotiating, running, ready, State.reset, Seq.reset]

theorem test_witness_PhaseTransitions_blockLength (ty : Byte) (h : ty = 0x01#8 ∨ ty = 0x02#8) :
    let n := answered 0x00#8 (negotiating .blockLengthSet (.response false))
    let s : State := moving .foreground { n with seq := { n.seq with ty := ty } }
    PhaseCoherent s ∧ nextIs (step s) (fun t => t.seq.phase == .done ty) = true := by
  rcases h with rfl | rfl <;> refine ⟨⟨?_, ?_, ?_, ?_, ?_, ?_⟩, by decide⟩ <;>
    simp [moving, answered, negotiating, running, ready, State.reset, Seq.reset, Config.ctSd1, Config.ctMmc]

/-- NegotiationPoll: each place and both counter values; the rule itself is open. -/
theorem test_witness_NegotiationPoll :
    let s (p : Phase) (m : Micro) (n : Counter) : State := { moving .foreground (negotiating p m) with tmr1 := n }
    (s .v2Negotiate .pollTest 0#16).nextEvent = .foreground ∧ (s .v2Negotiate .pollTest 0#16).seq.phase = .v2Negotiate ∧
    (s .v2Negotiate .pollTest 0#16).standsAt .pollTest ∧ (s .v2Negotiate .pollTest 0#16).tmr1 = 0#16 ∧
    (s .v1MmcNegotiate .pollExit 1#16).seq.phase = .v1MmcNegotiate ∧
    (s .v1MmcNegotiate .pollExit 1#16).standsAt .pollExit ∧ (s .v1MmcNegotiate .pollExit 1#16).tmr1 ≠ 0#16 ∧
    (s .reset .armNegotiation 0#16).standsAt .armNegotiation ∧
    (Config.pollSuccessRule = .byResponse ∨ Config.pollSuccessRule = .byTimer) := by
  refine ⟨rfl, rfl, ⟨rfl, rfl⟩, rfl, rfl, ⟨rfl, rfl⟩, by simp, ⟨rfl, rfl⟩, ?_⟩
  cases Config.pollSuccessRule <;> simp

theorem test_witness_InitializeExit :
    (negotiating (.done 0x02#8) .commit).standsAt .commit ∧
    (negotiating (.done 0x02#8) .commit).seq.op = .initializeDrive 0#8 ∧
    (negotiating (.done 0x02#8) .commit).seq.ty ≠ 0x00#8 ∧
    ({ (negotiating .failed .commit).seq with ty := 0x00#8 } : Seq).ty = 0x00#8 :=
  ⟨⟨rfl, rfl⟩, rfl, by decide, rfl⟩

/-- TransferExit: a transfer and an `IOCTL`; SyncRun with a card that stays busy. -/
theorem test_witness_TransferExit :
    (running (.write 0#8 0#32 1#8 0) (.deselectLatch .exit)).standsAt (.deselectLatch .exit) ∧
    (running (.write 0#8 0#32 1#8 0) (.deselectLatch .exit)).seq.op = .write 0#8 0#32 1#8 0 ∧
    (running (.ioctl 0#8 1#8 0) (.deselectLatch .exit)).seq.op = .ioctl 0#8 1#8 0 ∧
    (running (.ioctl 0#8 0#8 0) (.readyTest (.select .sync))).standsAt (.readyTest (.select .sync)) ∧
    (running (.ioctl 0#8 0#8 0) (.readyTest (.select .sync))).seq.res = .error ∧
    (running (.ioctl 0#8 0#8 0) (.readyTest (.select .sync))).tmr2 = 0#16 :=
  ⟨⟨rfl, rfl⟩, rfl, rfl, ⟨rfl, rfl⟩, rfl, rfl⟩

/-- GetTypeRun, ReadSingleSector. -/
theorem test_witness_ReadSingleSector : ready.driveReady ∧ BufferCanonical ready ∧
    (List.replicate 6 (0xFF#8 : Byte)).length = 6 ∧ (List.replicate 512 (0xFF#8 : Byte)).length = 512 :=
  ⟨⟨rfl, rfl⟩, rfl, List.length_replicate, List.length_replicate⟩

/-- StepKeepsBufferAndType, StepKeepsCardReleased, StepKeepsReadyHasType: a state that meets them and moves on. -/
theorem test_witness_invariants_idle :
    let s := moving (.request 0 0x200000000000100#59) ready
    BufferCanonical s ∧ CardTypeLegal s ∧ CardReleased s ∧ ReadyHasType s ∧ s.driveReady ∧
    nextIs (step s) (fun t => t.seq.busy) = true := by
  refine ⟨rfl, ⟨rfl, rfl⟩, ?_, ⟨?_, ?_, ?_, ?_⟩, ⟨rfl, rfl⟩, by decide⟩ <;>
    simp [CardReleased, Config.ctNone, moving, ready, State.reset, Seq.reset]

/-- StepKeepsTransferBounded, ForegroundProgresses, StepKeepsPhaseCoherent: the last payload byte of the last of 128
sectors. -/
theorem test_witness_invariants_transfer :
    let r := running (.read 0#8 0#32 128#8 0) (.payloadIn 511)
    let s : State := moving .foreground { r with seq := { r.seq with moved := 127 } }
    TransferBounded s ∧ DescriptorEmitted s ∧ PhaseCoherent s ∧ s.nextEvent = .foreground ∧
    (∀ h a b, s.nextEvent = .hostWrite h a b → a < 65536) ∧ nextIs (step s) (fun t => t.buffers == [(65535, 0xFF#8)]) = true := by
  refine ⟨⟨?_, ?_, ?_, ?_, ?_, ?_⟩, ?_, ⟨?_, ?_, ?_, ?_, ?_, ?_⟩, rfl, ?_, by decide⟩ <;>
    simp [DescriptorEmitted, moving, running, ready, State.reset, Seq.reset, HostOp.isRead, HostOp.isWrite,
      HostOp.blockLen, Micro.inCommand, Micro.inBlockOut, Micro.exiting, Micro.stopping, State.nextEvent]

end Sys2Proof.Tests
end

section
/-! PROOFS. O38: what a host request does outside control flow, by the instruction it decodes to, and from it the bus
trace of one step. -/

namespace Sys2Proof.Machine

variable {s p t : State}

/-! ### The effect of a request, by its instruction -/

/-- `RequestChange` with the instruction that makes each change: only the acceptance of `INITIALIZE` on drive 0 switches
the power on (R150), only `GET_TYPE` of drive 0 stores a byte (R195). -/
inductive RequestEffect (p t : State) : Instr → Prop where
  | control (i : Instr) (h : ControlOnly p t) : RequestEffect p t i
  | powerOn (h : ControlOnly (p.setPwr .on) t) : RequestEffect p t (.initializeDrive 0#8)
  | storeType (h : ControlOnly (p.store p.requestBuffer 0 p.ct) t) : RequestEffect p t (.ioctlGetType 0#8)

theorem execStatus_controlOnly {pdrv : Byte} (h : execStatus pdrv p = .next t) : ControlOnly p t := by
  obtain ⟨-, h⟩ := whenIdle_next h
  cases h
  rfl

theorem execRead_controlOnly {pdrv : Byte} {sector : Sector} {count : Byte}
    (h : execRead pdrv sector count p = .next t) : ControlOnly p t := by
  obtain ⟨-, h⟩ := whenIdle_next h
  split_ifs at h <;> cases h <;> rfl

theorem execWrite_controlOnly {pdrv : Byte} {sector : Sector} {count : Byte}
    (h : execWrite pdrv sector count p = .next t) : ControlOnly p t := by
  obtain ⟨-, h⟩ := whenIdle_next h
  split_ifs at h <;> cases h
  case neg => exact masked_startWrite _ _ _
  all_goals rfl

/-- A gate of `IOCTL` refuses, or lets the body run on drive 0. -/
theorem ioctlGate_next {pdrv : Byte} {body : Result} (h : p.ioctlGate pdrv body = .next t) :
    ControlOnly p t ∨ pdrv = 0#8 ∧ body = .next t := by
  obtain ⟨-, h⟩ := whenIdle_next h
  split_ifs at h with hp
  · cases h; exact .inl rfl
  · cases h; exact .inl rfl
  · exact .inr ⟨not_not.mp hp, h⟩

theorem exec_decodeIoctl_controlOnly {pdrv code : Byte} (hc : code ≠ Config.codeGetType)
    (h : exec (decodeIoctl pdrv code) p = .next t) : ControlOnly p t := by
  unfold decodeIoctl at h
  split_ifs at h
  all_goals
    rcases ioctlGate_next h with h | ⟨-, h⟩
    · exact h
    · repeat' split at h
      all_goals cases h; rfl

theorem execIoctlGetType_effect {pdrv : Byte} (h : execIoctlGetType pdrv p = .next t) :
    RequestEffect p t (.ioctlGetType pdrv) := by
  rcases ioctlGate_next h with h | ⟨rfl, h⟩
  · exact .control _ h
  · cases h; exact .storeType rfl

theorem execInitialize_effect {pdrv : Byte} (h : execInitialize pdrv p = .next t) :
    RequestEffect p t (.initializeDrive pdrv) := by
  obtain ⟨-, h⟩ := whenIdle_next h
  split_ifs at h with hp
  · cases h; exact .control _ rfl
  · obtain rfl := not_not.mp hp
    cases h; exact .powerOn rfl

theorem exec_request_effect {w : RequestWord} {i : Instr} (hd : decode (.request w) = .ok i)
    (h : exec i p = .next t) : RequestEffect p t i := by
  simp only [decode, decodeRequest] at hd
  split_ifs at hd <;> cases hd
  · exact .control _ (execStatus_controlOnly h)
  · exact execInitialize_effect h
  · exact .control _ (execRead_controlOnly h)
  · exact .control _ (execWrite_controlOnly h)
  · by_cases hc : requestCode w = Config.codeGetType
    · rw [hc] at h ⊢
      exact execIoctlGetType_effect h
    · exact .control _ (exec_decodeIoctl_controlOnly hc h)

theorem step_request_effect {buffer : Nat} {w : RequestWord} (he : s.nextEvent = .request buffer w)
    (h : step s = .next t) : ∃ i, decode (.request w) = .ok i ∧ RequestEffect s.taken t i := by
  rw [step_request he, takeUp] at h
  cases hd : decode (.request w) with
  | ok i =>
    rw [hd] at h
    exact ⟨i, rfl, exec_request_effect hd h⟩
  | error e =>
    rw [hd] at h
    cases h

/-! ### The bus trace (R12) -/

/-- The moves that may put an event on the bus: a foreground move of a running operation, and the acceptance of
`INITIALIZE` on drive 0 (its first primitive, log entry 14). -/
def State.mayUseBus (s : State) : Prop :=
  s.nextEvent = .foreground ∧ s.seq.busy = true ∨
    ∃ h w, s.nextEvent = .request h w ∧ decode (.request w) = .ok (.initializeDrive 0#8)

theorem step_request_trace {buffer : Nat} {w : RequestWord} (he : s.nextEvent = .request buffer w)
    (h : step s = .next t) : t.trace = s.trace ∨ (∃ e, t.trace = e :: s.trace) ∧ s.mayUseBus := by
  obtain ⟨i, hd, hi⟩ := step_request_effect he h
  cases hi with
  | control _ h => exact .inl (by simpa using h.trace)
  | powerOn h => exact .inr ⟨⟨_, by simpa using h.trace⟩, .inr ⟨buffer, w, he, hd⟩⟩
  | storeType h => exact .inl (by simpa using h.trace)

theorem step_trace (h : step s = .next t) :
    t.trace = s.trace ∨ (∃ e, t.trace = e :: s.trace) ∧ s.mayUseBus := by
  cases step_cases h with
  | control h | arm1 _ _ _ _ h | arm2 _ _ _ h | markStatus _ _ _ _ h | commit _ _ _ h =>
    exact .inl (by simpa using h.trace)
  | bus _ _ he hb h | busStore _ _ he hb _ _ _ h | busScr _ _ _ he hb h | busScrStore _ he hb _ _ _ h
  | chipSelect _ he hb h | clock _ he hb _ h | powerOff he hb _ h =>
    exact .inr ⟨⟨_, by simpa using h.trace⟩, .inl ⟨he, hb⟩⟩
  | powerOn _ _ he | storeType _ _ he => exact step_request_trace he h
  | tick _ h => cases h; exact .inl (State.taken_trace s)
  | reset _ h | lines _ _ _ h | hostWrite _ _ _ _ _ _ h => subst h; exact .inl (State.taken_trace s)

/-- Settles O38, from the effect of one step on the trace. -/
theorem oneBusEvent : Obligations.OneBusEvent := by
  intro s t h
  rcases step_trace h with heq | ⟨happ, huse⟩
  · exact ⟨.inl heq, fun hne => absurd heq hne⟩
  · exact ⟨.inr happ, fun _ => huse⟩

end Sys2Proof.Machine
end

section
/-! PROOFS. What a move of the foreground sequencer does to `SEQ`, by the place it is made at. -/

namespace Sys2Proof.Machine

/-! ### Where control flow leaves `SEQ` -/

/-- The places of the negotiation are `INITIALIZE`'s: they are reached in that operation, or from each other. -/
def Seq.mayNegotiate (q : Seq) : Prop := q.op.isInitialize = true ∨ q.micro.negotiating = true

/-- A place at which a return may leave the pseudocode that stands at `q`: the card is not released there, and the closing
`DESELECT` is reached by every operation but `INITIALIZE`, which commits first (R158). -/
structure Seq.ResumesAt (q : Seq) (m : Micro) : Prop where
  released : m.released = false
  exiting : m.exiting = true → q.op.isInitialize = false
  negotiating : m.negotiating = true → q.mayNegotiate

theorem Seq.resumesAt_inside {q : Seq} {m : Micro}
    (h : (m.released || m.exiting || m.negotiating) = false) : q.ResumesAt m := by
  simp only [Bool.or_eq_false_iff] at h
  obtain ⟨⟨hr, hx⟩, hn⟩ := h
  exact ⟨hr, fun h => by simp [hx] at h, fun h => by simp [hn] at h⟩

theorem Seq.resumesAt_exit {q : Seq} (h : q.op.isInitialize = false) : q.ResumesAt (.deselectLatch .exit) :=
  ⟨rfl, fun _ => h, nofun⟩

theorem Seq.resumesAt_negotiating {q : Seq} {m : Micro} (h : q.mayNegotiate) (hm : m.negotiating = true) :
    q.ResumesAt m := by
  cases m with
  | armNegotiation | pollTest | pollExit | commit => exact ⟨rfl, nofun, fun _ => h⟩
  | _ => cases hm

/-- Control flow inside the running operation: `SEQ` keeps its operation and resumes it, and `ty` stays legal. -/
structure Seq.Continues (q q' : Seq) : Prop where
  busy : q'.busy = q.busy
  op : q'.op = q.op
  type : legalCardType q.ty = true → legalCardType q'.ty = true
  place : q.ResumesAt q'.micro

section Returns

variable (s : State)

/-! ### The returns continue the operation -/

theorem continues_failInit (hop : s.seq.mayNegotiate) : s.seq.Continues s.failInit.seq := by
  have place : s.seq.ResumesAt .commit := Seq.resumesAt_negotiating hop rfl
  unfold State.failInit
  split
  · exact ⟨rfl, rfl, id, place⟩
  · exact ⟨rfl, rfl, id, place⟩
  · exact ⟨rfl, rfl, fun _ => rfl, place⟩

theorem continues_finishInit {ty : Byte} (hop : s.seq.mayNegotiate)
    (hty : legalCardType s.seq.ty = true → legalCardType ty = true) : s.seq.Continues (s.finishInit ty).seq :=
  ⟨rfl, rfl, hty, Seq.resumesAt_negotiating (m := .commit) hop rfl⟩

theorem continues_close (hop : s.seq.op.isInitialize = false) : s.seq.Continues s.close.seq :=
  ⟨rfl, rfl, id, Seq.resumesAt_exit hop⟩

theorem continues_closeWith (c : ResultCode) (hop : s.seq.op.isInitialize = false) :
    s.seq.Continues (s.closeWith c).seq :=
  ⟨rfl, rfl, id, Seq.resumesAt_exit hop⟩

theorem continues_closeWithValue (v : Option Word32) (hop : s.seq.op.isInitialize = false) :
    s.seq.Continues (s.closeWithValue v).seq := by
  cases v <;> exact ⟨rfl, rfl, id, Seq.resumesAt_exit hop⟩

theorem continues_exitOp : s.seq.Continues s.exitOp.seq := by
  unfold State.exitOp
  split
  next h => exact continues_failInit s (.inl (by rw [h]; rfl))
  next h => exact continues_close s (by cases ho : s.seq.op <;> simp_all [HostOp.isInitialize])

theorem continues_pollCommand : s.seq.Continues s.pollCommand.seq := by
  unfold State.pollCommand
  split
  · exact ⟨rfl, rfl, id, Seq.resumesAt_inside rfl⟩
  · split <;> exact ⟨rfl, rfl, id, Seq.resumesAt_inside rfl⟩

theorem continues_pollSucceeded (hop : s.seq.mayNegotiate) : s.seq.Continues s.pollSucceeded.seq := by
  unfold State.pollSucceeded
  split
  · exact ⟨rfl, rfl, id, Seq.resumesAt_inside rfl⟩
  · exact ⟨rfl, rfl, id, Seq.resumesAt_inside rfl⟩
  · exact continues_failInit s hop

theorem legal_probeType (r : Byte) : legalCardType (probeType r) = true := by
  unfold probeType
  split <;> rfl

theorem legal_sd2Type (ocr0 : Byte) : legalCardType (sd2Type ocr0) = true := by
  unfold sd2Type
  split <;> rfl

theorem continues_initReturn (r : Byte) (hop : s.seq.mayNegotiate) :
    s.seq.Continues (s.initReturn r).seq := by
  have negotiates {m : Micro} (hm : m.negotiating = true) : s.seq.ResumesAt m :=
    Seq.resumesAt_negotiating hop hm
  unfold State.initReturn
  split
  · split
    · exact ⟨rfl, rfl, id, negotiates (m := .armNegotiation) rfl⟩
    · exact continues_failInit s hop
  · split <;> exact ⟨rfl, rfl, id, Seq.resumesAt_inside rfl⟩
  · split
    · split
      · exact ⟨rfl, rfl, id, negotiates (m := .pollExit) rfl⟩
      · exact ⟨rfl, rfl, id, negotiates (m := .pollTest) rfl⟩
    · split
      · exact ⟨rfl, rfl, id, Seq.resumesAt_inside rfl⟩
      · exact continues_failInit s hop
  · split
    · split
      · exact ⟨rfl, rfl, id, negotiates (m := .pollExit) rfl⟩
      · exact ⟨rfl, rfl, id, negotiates (m := .pollTest) rfl⟩
    · exact ⟨rfl, rfl, fun _ => legal_probeType r, negotiates (m := .pollTest) rfl⟩
  · split
    · exact continues_finishInit s hop id
    · exact continues_failInit s hop
  · exact ⟨rfl, rfl, id, negotiates (m := .commit) rfl⟩
  · exact ⟨rfl, rfl, id, negotiates (m := .commit) rfl⟩

theorem continues_initRaw (hop : s.seq.mayNegotiate) : s.seq.Continues s.initRaw.seq := by
  unfold State.initRaw
  split
  · split
    · exact ⟨rfl, rfl, id, Seq.resumesAt_negotiating (m := .pollTest) hop rfl⟩
    · exact continues_failInit s hop
  · exact continues_finishInit s hop fun _ => legal_sd2Type _
  · exact continues_failInit s hop

theorem continues_readReturn (r : Byte) (hop : s.seq.op.isInitialize = false) :
    s.seq.Continues (s.readReturn r).seq := by
  unfold State.readReturn
  split
  · exact continues_close s hop
  · split
    · exact ⟨rfl, rfl, id, Seq.resumesAt_inside rfl⟩
    · exact continues_close s hop

theorem continues_readBlock (count : Byte) (received : Bool) (hop : s.seq.op.isInitialize = false) :
    s.seq.Continues (s.readBlock count received).seq := by
  unfold State.readBlock
  split
  · split <;> exact ⟨rfl, rfl, id, Seq.resumesAt_exit hop⟩
  · split
    · split <;> exact ⟨rfl, rfl, id, Seq.resumesAt_inside rfl⟩
    · exact ⟨rfl, rfl, id, Seq.resumesAt_inside rfl⟩

theorem continues_writeReturn (count r : Byte) (hop : s.seq.op.isInitialize = false) :
    s.seq.Continues (s.writeReturn count r).seq := by
  unfold State.writeReturn
  split
  · exact ⟨rfl, rfl, id, Seq.resumesAt_inside rfl⟩
  · split
    · exact ⟨rfl, rfl, id, Seq.resumesAt_inside rfl⟩
    · exact continues_close s hop

theorem continues_writeBlock (k : TxToken) (sent : Bool) (hop : s.seq.op.isInitialize = false) :
    s.seq.Continues (s.writeBlock k sent).seq := by
  unfold State.writeBlock
  split
  · split <;> exact ⟨rfl, rfl, id, Seq.resumesAt_exit hop⟩
  · split
    · split <;> exact ⟨rfl, rfl, id, Seq.resumesAt_inside rfl⟩
    · exact ⟨rfl, rfl, id, Seq.resumesAt_inside rfl⟩
  · split <;> exact ⟨rfl, rfl, id, Seq.resumesAt_exit hop⟩

theorem continues_queryReturn (code r : Byte) (hop : s.seq.op.isInitialize = false) :
    s.seq.Continues (s.queryReturn code r).seq := by
  unfold State.queryReturn
  split
  · split_ifs <;> exact ⟨rfl, rfl, id, Seq.resumesAt_inside rfl⟩
  · exact continues_close s hop

theorem continues_queryBlock (code : Byte) (received : Bool) (hop : s.seq.op.isInitialize = false) :
    s.seq.Continues (s.queryBlock code received).seq := by
  unfold State.queryBlock
  split
  · split
    · exact continues_closeWithValue s _ hop
    · split
      · split
        · exact ⟨rfl, rfl, id, Seq.resumesAt_inside rfl⟩
        · exact continues_closeWithValue s _ hop
      · exact continues_closeWith s .ok hop
  · exact continues_close s hop

theorem continues_operationReturn (r : Byte) : s.seq.Continues (s.operationReturn r).seq := by
  unfold State.operationReturn
  split
  next h => exact continues_initReturn s r (.inl (by rw [h]; rfl))
  next h => exact continues_readReturn s r (by rw [h]; rfl)
  next h => exact continues_writeReturn s _ r (by rw [h]; rfl)
  next h => exact continues_queryReturn s _ r (by rw [h]; rfl)
  next h => exact continues_close s (by rw [h]; rfl)

theorem continues_commandReturn (pfx : Bool) (r : Byte) : s.seq.Continues (s.commandReturn pfx r).seq := by
  unfold State.commandReturn
  split
  · exact ⟨rfl, rfl, id, Seq.resumesAt_inside rfl⟩
  · exact continues_operationReturn { s with resp := r } r

theorem continues_selectReturn (c : SelectCaller) (selected : Bool) :
    s.seq.Continues (s.selectReturn c selected).seq := by
  unfold State.selectReturn
  split
  · split
    · exact ⟨rfl, rfl, id, Seq.resumesAt_inside rfl⟩
    · exact continues_commandReturn s _ _
  · split
    next h =>
      have hop : s.seq.op.isInitialize = false := by rw [h]; rfl
      split
      · exact continues_closeWith s .ok hop
      · exact continues_close s hop
    next => exact continues_exitOp s

theorem continues_blockInReturn (received : Bool) : s.seq.Continues (s.blockInReturn received).seq := by
  unfold State.blockInReturn
  split
  next h => exact continues_readBlock s _ received (by rw [h]; rfl)
  next h => exact continues_queryBlock s _ received (by rw [h]; rfl)
  next => exact continues_exitOp s

theorem continues_blockOutReturn (k : TxToken) (sent : Bool) : s.seq.Continues (s.blockOutReturn k sent).seq := by
  unfold State.blockOutReturn
  split
  next h => exact continues_writeBlock s k sent (by rw [h]; rfl)
  next => exact continues_exitOp s

theorem continues_readyReturn (c : ReadyCaller) (isReady : Bool) :
    s.seq.Continues (s.readyReturn c isReady).seq := by
  unfold State.readyReturn
  split
  · split
    · exact continues_selectReturn s _ true
    · exact ⟨rfl, rfl, id, Seq.resumesAt_inside rfl⟩
  · split
    · exact ⟨rfl, rfl, id, Seq.resumesAt_inside rfl⟩
    · exact continues_blockOutReturn s _ false

theorem continues_rawReturn : s.seq.Continues s.rawReturn.seq := by
  unfold State.rawReturn
  split
  next h => exact continues_initRaw s (.inl (by rw [h]; rfl))
  next h => exact continues_closeWith s .ok (by rw [h]; rfl)
  next => exact continues_exitOp s

theorem continues_purgeReturn : s.seq.Continues s.purgeReturn.seq := by
  unfold State.purgeReturn
  split
  next h => exact continues_closeWithValue s _ (by rw [h]; rfl)
  next => exact continues_exitOp s

theorem continues_afterPayloadIn (i : Nat) : s.seq.Continues (s.afterPayloadIn i).seq := by
  unfold State.afterPayloadIn
  split <;> exact ⟨rfl, rfl, id, Seq.resumesAt_inside rfl⟩

theorem continues_afterPayloadOut (k : TxToken) (i : Nat) : s.seq.Continues (s.afterPayloadOut k i).seq := by
  unfold State.afterPayloadOut
  split <;> exact ⟨rfl, rfl, id, Seq.resumesAt_inside rfl⟩

theorem continues_afterRaw (i : Nat) : s.seq.Continues (s.afterRaw i).seq := by
  unfold State.afterRaw
  split
  · exact ⟨rfl, rfl, id, Seq.resumesAt_inside rfl⟩
  · exact continues_rawReturn s

theorem continues_afterFrameByte (pfx : Bool) (i : Nat) : s.seq.Continues (s.afterFrameByte pfx i).seq := by
  unfold State.afterFrameByte
  split_ifs <;> exact ⟨rfl, rfl, id, Seq.resumesAt_inside rfl⟩

/-- After the closing `DESELECT`, `INITIALIZE` goes on to the branch of R158 that its type selects. -/
theorem finish_of_initialize (hop : s.seq.op.isInitialize = true) :
    s.finish = s.goto (if s.seq.ty = Config.ctNone then .powerOff else .markReady) := by
  unfold State.finish
  cases ho : s.seq.op with
  | initializeDrive pdrv => dsimp only; split <;> rfl
  | _ => rw [ho] at hop; cases hop

/-- After the closing `DESELECT`, every other operation delivers its result. -/
theorem finish_of_not_initialize (hop : s.seq.op.isInitialize = false) : ∃ r, s.finish = s.deliver r := by
  unfold State.finish
  cases ho : s.seq.op with
  | initializeDrive pdrv => rw [ho] at hop; cases hop
  | _ => exact ⟨_, rfl⟩

end Returns

/-! ### The foreground's move, by the place it is made at -/

/-- `SEQ` and the three registers the invariants read. -/
def State.standing (s : State) : Seq × DriveStatus × Byte × ChipSelect := (s.seq, s.stat, s.ct, s.cs)

theorem standing_eq_iff {p u : State} :
    u.standing = p.standing ↔ u.seq = p.seq ∧ u.stat = p.stat ∧ u.ct = p.ct ∧ u.cs = p.cs := by
  simp [State.standing]

/-- The closing `DESELECT`, and the places before the status update of an `INITIALIZE` that failed (R158): where a cleared
`NotInitialized` may stand beside no card type. -/
def Micro.updating : Micro → Bool
  | .powerOff | .markFailed => true
  | m => m.exiting

theorem Micro.updating_of_exiting {m : Micro} (h : m.exiting = true) : m.updating = true := by
  unfold Micro.updating
  split
  · rfl
  · rfl
  · exact h

/-- What the foreground's move from `p`, which stands at the given place, can lead to. -/
inductive ForegroundMove (p : State) : Micro → State → Prop where
  | rests : ForegroundMove p .rest p
  | powersUp : ForegroundMove p .clockSlow ((p.setClk .slow).goto (.powerUp Config.nPowerupDummy))
  | keepsPoweringUp (left : Nat) :
      ForegroundMove p (.powerUp left) ((p.send Config.fill).goto (.powerUp (left - 1)))
  /-- One primitive that writes none of the three registers, then control flow inside the operation. -/
  | continues {m : Micro} {u t : State} (place : m.updating = false) (control : ControlOnly u t)
      (seq : u.seq.Continues t.seq) (base : u.standing = p.standing) : ForegroundMove p m t
  /-- The first primitive of a command other than `CMD12` (R110, R114). -/
  | command (h : p.app = true ∨ p.idx ≠ Config.idxStopTransmission) :
      ForegroundMove p .issue
        (((p.describe p.app p.idx p.arg).setCs .deasserted).goto (.deselectDummy (.command p.app)))
  | deselect (c : DeselectCaller) :
      ForegroundMove p (.deselectLatch c) ((p.setCs .deasserted).goto (.deselectDummy c))
  | select (c : SelectCaller) :
      ForegroundMove p (.selectLatch c) ((p.setCs .asserted).goto (.selectDummy c))
  | commit : ForegroundMove p .commit (({ p with ct := p.seq.ty } : State).goto (.deselectLatch .exit))
  | finish : ForegroundMove p (.deselectDummy .exit) (p.send Config.fill).finish
  | markReady : ForegroundMove p .markReady ((p.setNotInitialized false).goto .clockFast)
  | clockFast : ForegroundMove p .clockFast ((p.setClk .fast).goto .reportStatus)
  | powerOff : ForegroundMove p .powerOff ((p.setPwr .off).goto .markFailed)
  | markFailed : ForegroundMove p .markFailed ((p.setNotInitialized true).goto .reportStatus)
  | report : ForegroundMove p .reportStatus (p.deliver (.status p.stat.toByte))

section Move

variable {p t : State}

theorem ForegroundMove.goesTo {m m' : Micro} {u : State} (place : m.updating = false)
    (inside : (m'.released || m'.exiting || m'.negotiating) = false) (base : u.standing = p.standing) :
    ForegroundMove p m (u.goto m') :=
  .continues place (masked_goto _ _) ⟨rfl, rfl, id, Seq.resumesAt_inside inside⟩ base

theorem payloadInStep_move {i : Nat} (h : p.payloadInStep i = .next t) : ForegroundMove p (.payloadIn i) t := by
  unfold State.payloadInStep at h
  split at h
  · split at h
    · cases h
      exact .continues rfl (masked_afterPayloadIn _ _) (continues_afterPayloadIn _ _) rfl
    · cases h
  · cases h
    exact .continues rfl (masked_afterPayloadIn _ _) (continues_afterPayloadIn _ _) rfl

theorem rawInStep_move {i : Nat} (h : p.rawInStep i = .next t) : ForegroundMove p (.rawIn i) t := by
  unfold State.rawInStep at h
  split at h
  · split at h
    · cases h
      exact .continues rfl (masked_afterRaw _ _) (continues_afterRaw _ _) rfl
    · cases h
  · cases h
    exact .continues rfl (masked_afterRaw _ _) (continues_afterRaw _ _) rfl

theorem deselectDummy_move (c : DeselectCaller) :
    ForegroundMove p (.deselectDummy c) ((p.send Config.fill).deselectReturn c) := by
  cases c with
  | command pfx => exact .goesTo rfl rfl rfl
  | selectFailed c =>
    exact .continues rfl (masked_selectReturn _ _ _) (continues_selectReturn _ _ _) rfl
  | exit => exact .finish

/-- A primitive that is no instruction. -/
theorem primitive_move (h : p.primitive = .next t) : ForegroundMove p p.seq.micro t := by
  unfold State.primitive at h
  generalize hm : p.seq.micro = m at h ⊢
  cases m with
  | rest => cases h; exact .rests
  | clockSlow => cases h; exact .powersUp
  | powerUp left =>
    dsimp only at h
    split at h <;> cases h
    · exact .continues (u := p.send Config.fill) rfl rfl ⟨rfl, rfl, fun _ => rfl, Seq.resumesAt_inside rfl⟩ rfl
    · exact .keepsPoweringUp left
  | deselectLatch c => cases h; exact .deselect c
  | deselectDummy c => cases h; exact deselectDummy_move c
  | selectLatch c => cases h; exact .select c
  | selectDummy c => cases h; exact .goesTo rfl rfl rfl
  | readyArm c => cases h; exact .goesTo rfl rfl rfl
  | readyTest c =>
    dsimp only at h
    split at h <;> cases h
    · exact .continues rfl (masked_readyReturn _ _ _) (continues_readyReturn _ _ _) rfl
    · exact .goesTo rfl rfl rfl
  | frame pfx i =>
    cases h
    exact .continues rfl (masked_afterFrameByte _ _ _) (continues_afterFrameByte _ _ _) rfl
  | stuff => cases h; exact .goesTo rfl rfl rfl
  | tokenArm => cases h; exact .goesTo rfl rfl rfl
  | tokenTest =>
    dsimp only at h
    split at h <;> cases h
    · exact .continues rfl (masked_blockInReturn _ _) (continues_blockInReturn _ _) rfl
    · exact .goesTo rfl rfl rfl
  | payloadIn i => exact payloadInStep_move h
  | crcIn left =>
    dsimp only at h
    split at h <;> cases h
    · exact .continues rfl (masked_blockInReturn _ _) (continues_blockInReturn _ _) rfl
    · exact .goesTo rfl rfl rfl
  | payloadOut k i =>
    unfold State.payloadOutStep at h
    dsimp only at h
    split at h <;> cases h
    exact .continues rfl (masked_afterPayloadOut _ _ _) (continues_afterPayloadOut _ _ _) rfl
  | crcOut k left =>
    dsimp only at h
    split at h <;> cases h <;>
      exact .goesTo rfl rfl rfl
  | rawIn i => exact rawInStep_move h
  | discard => cases h; exact .goesTo rfl rfl rfl
  | purge left =>
    dsimp only at h
    split at h <;> cases h
    · exact .continues rfl (masked_purgeReturn _) (continues_purgeReturn _) rfl
    · exact .goesTo rfl rfl rfl
  | armNegotiation => cases h; exact .continues (u := p.arm1 _) rfl rfl ⟨rfl, rfl, id, Seq.resumesAt_inside rfl⟩ rfl
  | pollTest =>
    dsimp only at h
    split at h <;> cases h
    · exact .continues rfl (masked_failInit _) (continues_failInit _ (.inr (by rw [hm]; rfl))) rfl
    · exact .continues rfl (masked_pollCommand _) (continues_pollCommand _) rfl
  | pollExit =>
    have succeeds : ForegroundMove p .pollExit p.pollSucceeded :=
      .continues rfl (masked_pollSucceeded _) (continues_pollSucceeded _ (.inr (by rw [hm]; rfl))) rfl
    dsimp only at h
    split at h
    · cases h; exact succeeds
    · split at h <;> cases h
      · exact succeeds
      · exact .continues rfl (masked_failInit _) (continues_failInit _ (.inr (by rw [hm]; rfl))) rfl
  | commit => cases h; exact .commit
  | markReady => cases h; exact .markReady
  | clockFast => cases h; exact .clockFast
  | powerOff => cases h; exact .powerOff
  | markFailed => cases h; exact .markFailed
  | reportStatus => cases h; exact .report
  | issue | response | readyPoll | tokenPoll | token | dataResponse => cases h
/-! ### The moves at which something stands on the wire -/

theorem sendCommand_move (h : p.sendCommand p.app p.idx p.arg = .next t) : ForegroundMove p .issue t := by
  unfold State.sendCommand at h
  split at h
  · cases h
    unfold State.startCommand
    split
    · exact .goesTo rfl rfl rfl
    next hc =>
      refine .command ?_
      cases ha : p.app with
      | true => exact .inl rfl
      | false => exact .inr fun hi => hc ⟨by rw [ha]; rfl, hi⟩
  · cases h

theorem sendToken_move {k : TxToken} (h : p.sendToken k = .next t) : ForegroundMove p (.token k) t := by
  unfold State.sendToken at h
  split at h
  · split at h <;> cases h
    · exact .continues rfl (masked_blockOutReturn _ _ _) (continues_blockOutReturn _ _ _) rfl
    · exact .goesTo rfl rfl rfl
  · cases h

theorem response_move {b : Byte} {pfx : Bool} (hm : p.seq.micro = .response pfx)
    (h : takeUp (.response b) p = .next t) : ForegroundMove p (.response pfx) t := by
  have returns : ForegroundMove p (.response pfx) ((p.pollExchange b).commandReturn pfx b) :=
    .continues rfl (masked_commandReturn _ _ _) (continues_commandReturn _ _ _) rfl
  rw [takeUp_response] at h
  split at h
  · simp only [State.takeResponse, hm] at h
    split at h <;> cases h
    exact returns
  · simp only [State.missResponse, hm] at h
    split at h <;> cases h
    · exact returns
    · have inside : (p.pollExchange b).seq.ResumesAt p.seq.micro := Seq.resumesAt_inside (by rw [hm]; rfl)
      exact .continues (u := p.pollExchange b) rfl rfl ⟨rfl, rfl, id, inside⟩ rfl

theorem startToken_move {b : Byte} (h : takeUp (.startToken b) p = .next t) : ForegroundMove p .tokenPoll t := by
  rw [takeUp_startToken] at h
  split at h
  · unfold State.takeStartToken at h
    split at h <;> cases h
    exact .goesTo rfl rfl rfl
  · unfold State.missStartToken at h
    split at h <;> cases h
    · exact .goesTo rfl rfl rfl
    · exact .continues rfl (masked_blockInReturn _ _) (continues_blockInReturn _ _) rfl

theorem readyByte_move {b : Byte} {c : ReadyCaller} (hm : p.seq.micro = .readyPoll c)
    (h : takeUp (.readyByte b) p = .next t) : ForegroundMove p (.readyPoll c) t := by
  rw [takeUp_readyByte] at h
  split at h
  · simp only [State.takeReady, hm] at h
    split at h <;> cases h
    exact .continues rfl (masked_readyReturn _ _ _) (continues_readyReturn _ _ _) rfl
  · simp only [State.missReady, hm] at h
    cases h
    exact .goesTo rfl rfl rfl

theorem dataResponse_move {b : Byte} {k : TxToken} (hm : p.seq.micro = .dataResponse k)
    (h : takeUp (.dataResponse b) p = .next t) : ForegroundMove p (.dataResponse k) t := by
  have returns (sent : Bool) : ForegroundMove p (.dataResponse k) ((p.exchange Config.fill b).blockOutReturn k sent) :=
    .continues rfl (masked_blockOutReturn _ _ _) (continues_blockOutReturn _ _ _) rfl
  rw [takeUp_dataResponse] at h
  split at h
  · simp only [State.takeDataResponse, hm] at h
    split at h <;> cases h
    exact returns true
  · simp only [State.missDataResponse, hm] at h
    cases h
    exact returns false

theorem takeUp_wire_move {sig : Signal} (hw : p.wireSignal = some sig) (h : takeUp sig p = .next t) :
    ForegroundMove p p.seq.micro t := by
  unfold State.wireSignal at hw
  split at hw
  · split at hw
    next hm =>
      cases hw
      rw [hm]
      rcases takeUp_frame p.app p.idx p.arg p with hf | hf
      · exact sendCommand_move (hf ▸ h)
      · rw [hf] at h; cases h
    next hm => cases hw; rw [takeUp_sentToken] at h; rw [hm]; exact sendToken_move h
    next hm => cases hw; rw [hm]; exact response_move hm h
    next hm => cases hw; rw [hm]; exact startToken_move h
    next hm => cases hw; rw [hm]; exact readyByte_move hm h
    next hm => cases hw; rw [hm]; exact dataResponse_move hm h
    · cases hw
  · cases hw

end Move

variable {s t : State}

/-- A move of the foreground while an operation runs. -/
theorem step_foreground_move (he : s.nextEvent = .foreground) (hb : s.seq.busy = true)
    (h : step s = .next t) : ForegroundMove s.popEvent s.seq.micro t := by
  cases hw : s.popEvent.wireSignal with
  | some sig =>
    rw [step_foreground_wire he hw] at h
    simpa using takeUp_wire_move hw h
  | none =>
    rw [step_foreground_primitive he hb hw] at h
    simpa using primitive_move h

end Sys2Proof.Machine
end

section
/-! PROOFS. O36, O37: who writes the status flags, the inputs, the card type and the latches. -/

namespace Sys2Proof.Machine

variable {s t : State}

/-! ### The status flags and the inputs -/

theorem step_stat (h : step s = .next t) :
    t.stat = s.stat ∨
      s.nextEvent = .tick ∧ t.stat = s.stat.sampled s.cdPresent s.wpActive ∨
      s.nextEvent = .foreground ∧
        (s.standsAt .markReady ∧ t.stat = s.stat.withNotInitialized false ∨
          s.standsAt .markFailed ∧ t.stat = s.stat.withNotInitialized true) ∨
      s.nextEvent = .reset := by
  cases step_cases h
  case markStatus b he hb hm h =>
    have hstat : t.stat = s.stat.withNotInitialized b := by simpa using h.stat
    refine .inr (.inr (.inl ⟨he, ?_⟩))
    rcases hm with ⟨hm, rfl⟩ | ⟨hm, rfl⟩
    · exact .inl ⟨⟨hb, hm⟩, hstat⟩
    · exact .inr ⟨⟨hb, hm⟩, hstat⟩
  case tick he h => cases h; exact .inr (.inl ⟨he, by simp⟩)
  case reset he _ => exact .inr (.inr (.inr he))
  case lines _ _ _ h | hostWrite _ _ _ _ _ _ h => subst h; exact .inl (by simp)
  all_goals
    rename ControlOnly _ _ => h
    exact .inl (by simpa using h.stat)

theorem step_inputs (h : step s = .next t) :
    t.cdPresent = s.cdPresent ∧ t.wpActive = s.wpActive ∨ ∃ cd wp, s.nextEvent = .lines cd wp := by
  cases step_cases h
  case lines cd wp he _ => exact .inr ⟨cd, wp, he⟩
  case tick _ h => cases h; exact .inl ⟨by simp, by simp⟩
  case reset _ h | hostWrite _ _ _ _ _ _ h =>
    subst h; exact .inl ⟨State.taken_cdPresent s, State.taken_wpActive s⟩
  all_goals
    rename ControlOnly _ _ => h
    exact .inl ⟨by simpa using h.cdPresent, by simpa using h.wpActive⟩

/-- Settles O36, from the ways a step can leave `STAT` and the inputs. -/
theorem statusWriters : Obligations.StatusWriters := by
  refine ⟨fun s t h => ⟨?_, ?_, ?_, ?_⟩, fun s cd wp he => step_lines he⟩
  · intro hs ht
    rcases step_stat h with hstat | ⟨-, hstat⟩ | ⟨he, ⟨hm, -⟩ | ⟨-, hstat⟩⟩ | he
    · simp [hstat, hs] at ht
    · simp [hstat, DriveStatus.sampled, hs] at ht
    · exact ⟨he, hm⟩
    · simp [hstat, DriveStatus.withNotInitialized] at ht
    · rw [step_reset he] at h
      cases h
      cases ht
  · intro hs ht
    rcases step_stat h with hstat | ⟨he, hstat⟩ | ⟨he, ⟨-, hstat⟩ | ⟨hm, -⟩⟩ | he
    · simp [hstat, hs] at ht
    · exact .inl ⟨he, by simpa [hstat, DriveStatus.sampled, hs] using ht⟩
    · simp [hstat, DriveStatus.withNotInitialized] at ht
    · exact .inr (.inl ⟨he, hm⟩)
    · exact .inr (.inr he)
  · intro hne
    rcases step_stat h with hstat | ⟨he, -⟩ | ⟨-, ⟨-, hstat⟩ | ⟨-, hstat⟩⟩ | he
    · simp [hstat] at hne
    · exact .inl he
    · simp [hstat, DriveStatus.withNotInitialized] at hne
    · simp [hstat, DriveStatus.withNotInitialized] at hne
    · exact .inr he
  · intro hne
    rcases step_inputs h with ⟨hcd, hwp⟩ | he
    · simp [hcd, hwp] at hne
    · exact he

/-! ### The card type and the latches -/

theorem step_ct (h : step s = .next t) :
    t.ct = s.ct ∨ s.nextEvent = .reset ∧ t.ct = Config.ctNone ∨
      s.nextEvent = .foreground ∧ s.standsAt .commit ∧ t.ct = s.seq.ty := by
  cases step_cases h
  case commit he hb hm h => exact .inr (.inr ⟨he, ⟨hb, hm⟩, h.ct⟩)
  case reset he h => subst h; exact .inr (.inl ⟨he, rfl⟩)
  case tick _ h => cases h; exact .inl (by simp)
  case lines _ _ _ h | hostWrite _ _ _ _ _ _ h => subst h; exact .inl (by simp)
  all_goals
    rename ControlOnly _ _ => h
    exact .inl (by simpa using h.ct)

theorem step_clk (h : step s = .next t) :
    t.clk = s.clk ∨ s.nextEvent = .reset ∨
      s.nextEvent = .foreground ∧ (s.standsAt .clockSlow ∧ t.clk = .slow ∨ s.standsAt .clockFast ∧ t.clk = .fast) := by
  cases step_cases h
  case clock speed he hb hm h =>
    refine .inr (.inr ⟨he, ?_⟩)
    rcases hm with ⟨hm, rfl⟩ | ⟨hm, rfl⟩
    · exact .inl ⟨⟨hb, hm⟩, h.clk⟩
    · exact .inr ⟨⟨hb, hm⟩, h.clk⟩
  case reset he _ => exact .inr (.inl he)
  case tick _ h => cases h; exact .inl (by simp)
  case lines _ _ _ h | hostWrite _ _ _ _ _ _ h => subst h; exact .inl (by simp)
  all_goals
    rename ControlOnly _ _ => h
    exact .inl (by simpa using h.clk)

theorem step_pwr (h : step s = .next t) :
    t.pwr = s.pwr ∨
      t.pwr = .on ∧ (∃ b w, s.nextEvent = .request b w ∧ decode (.request w) = .ok (.initializeDrive 0#8)) ∨
      t.pwr = .off ∧ (s.nextEvent = .reset ∨ s.nextEvent = .foreground ∧ s.standsAt .powerOff) := by
  cases step_cases h
  case powerOn b w he _ _ =>
    obtain ⟨i, hd, hi⟩ := step_request_effect he h
    cases hi with
    | control _ h | storeType h => exact .inl (by simpa using h.pwr)
    | powerOn h => exact .inr (.inl ⟨h.pwr, b, w, he, hd⟩)
  case powerOff he hb hm h => exact .inr (.inr ⟨h.pwr, .inr ⟨he, hb, hm⟩⟩)
  case reset he h => subst h; exact .inr (.inr ⟨rfl, .inl he⟩)
  case tick _ h => cases h; exact .inl (by simp)
  case lines _ _ _ h | hostWrite _ _ _ _ _ _ h => subst h; exact .inl (by simp)
  all_goals
    rename ControlOnly _ _ => h
    exact .inl (by simpa using h.pwr)

/-- The places at which the foreground asserts the chip select (R106) and at which it deasserts it (R105, R110). -/
theorem ForegroundMove.cs {p : State} {m : Micro} (h : ForegroundMove p m t) :
    t.cs = p.cs ∨ t.cs = .asserted ∧ (∃ c, m = .selectLatch c) ∨
      t.cs = .deasserted ∧
        ((∃ c, m = .deselectLatch c) ∨
          m = .issue ∧ (p.app = true ∨ p.idx ≠ Config.idxStopTransmission) ∧
            t.seq.micro = .deselectDummy (.command p.app)) := by
  cases h with
  | continues _ control _ base =>
    obtain ⟨-, -, -, hcs⟩ := standing_eq_iff.mp base
    exact .inl (control.cs.trans hcs)
  | command hc => exact .inr (.inr ⟨rfl, .inr ⟨rfl, hc, rfl⟩⟩)
  | deselect c => exact .inr (.inr ⟨rfl, .inl ⟨c, rfl⟩⟩)
  | select c => exact .inr (.inl ⟨rfl, c, rfl⟩)
  | finish => exact .inl (ControlOnly.cs (s := p.send Config.fill) (masked_finish _))
  | rests | powersUp | keepsPoweringUp | commit | markReady | clockFast | powerOff | markFailed | report =>
    exact .inl rfl

/-- The other moves leave the chip select alone, but for reset. -/
theorem step_cs_of_ne_foreground (he : s.nextEvent ≠ .foreground) (h : step s = .next t) :
    t.cs = s.cs ∨ s.nextEvent = .reset ∧ t.cs = .deasserted := by
  cases step_cases h with
  | control h | storeType _ _ _ _ h | powerOn _ _ _ _ h => exact .inl (by simpa using h.cs)
  | tick _ h => cases h; exact .inl (by simp)
  | reset he h => subst h; exact .inr ⟨he, rfl⟩
  | lines _ _ _ h | hostWrite _ _ _ _ _ _ h => subst h; exact .inl (by simp)
  | bus _ _ hf | busStore _ _ hf | busScr _ _ _ hf | busScrStore _ hf | chipSelect _ hf | clock _ hf | powerOff hf
  | arm1 _ hf | arm2 hf | markStatus _ hf | commit hf => exact absurd hf he

theorem step_cs (h : step s = .next t) :
    t.cs = s.cs ∨ t.cs = .asserted ∧ s.nextEvent = .foreground ∧ (∃ c, s.standsAt (.selectLatch c)) ∨
      t.cs = .deasserted ∧
        (s.nextEvent = .reset ∨
          s.nextEvent = .foreground ∧
            ((∃ c, s.standsAt (.deselectLatch c)) ∨
              s.standsAt .issue ∧ (s.app = true ∨ s.idx ≠ 12#6) ∧
                t.seq.micro = .deselectDummy (.command s.app))) := by
  by_cases he : s.nextEvent = .foreground
  · cases hb : s.seq.busy with
    | false => rw [step_foreground_idle he hb] at h; cases h; exact .inl (by simp)
    | true =>
      rcases (step_foreground_move he hb h).cs with hcs | ⟨hcs, c, hm⟩ | ⟨hcs, ⟨c, hm⟩ | ⟨hm, hi, ht⟩⟩
      · exact .inl (by simpa using hcs)
      · exact .inr (.inl ⟨hcs, he, c, hb, hm⟩)
      · exact .inr (.inr ⟨hcs, .inr ⟨he, .inl ⟨c, hb, hm⟩⟩⟩)
      · exact .inr (.inr ⟨hcs, .inr ⟨he, .inr ⟨⟨hb, hm⟩, by simpa using hi, by simpa using ht⟩⟩⟩)
  · rcases step_cs_of_ne_foreground he h with hcs | ⟨hr, hcs⟩
    · exact .inl hcs
    · exact .inr (.inr ⟨hcs, .inl hr⟩)

/-- Settles O37, from the ways a step can leave `CT` and each latch. -/
theorem latchWriters : Obligations.LatchWriters := by
  refine fun s t h => ⟨?_, ?_, ?_, ?_, ?_, ?_⟩
  · intro hne
    rcases step_ct h with hct | ⟨he, -⟩ | hc
    · exact absurd hct hne
    · exact .inl he
    · exact .inr hc
  · intro hne
    exact (step_clk h).resolve_left hne
  · intro ht hs
    rcases step_pwr h with hp | ⟨-, hi⟩ | ⟨hp, -⟩
    · simp [hp, hs] at ht
    · exact hi
    · simp [hp] at ht
  · intro ht hs
    rcases step_pwr h with hp | ⟨hp, -⟩ | ⟨-, hw⟩
    · simp [hp, hs] at ht
    · simp [hp] at ht
    · exact hw
  · intro ht hs
    rcases step_cs h with hc | ⟨-, hw⟩ | ⟨hc, -⟩
    · simp [hc, hs] at ht
    · exact hw
    · simp [hc] at ht
  · intro ht hs
    rcases step_cs h with hc | ⟨hc, -⟩ | ⟨-, hw⟩
    · simp [hc, hs] at ht
    · simp [hc] at ht
    · exact hw

end Sys2Proof.Machine
end

section
/-! PROOFS. O55, O56, O57: the invariants of the buffers, the card type and the chip select are kept by every step. -/

namespace Sys2Proof.Machine

variable {s p t : State}

/-! ### What a host request does to `SEQ` -/

/-- `SEQ` of an operation that a request has just begun: `ty` as before, and a first place, which is neither
in the negotiation nor at the exit of `INITIALIZE`. -/
structure Seq.Begins (q q' : Seq) : Prop where
  type : q'.ty = q.ty
  exiting : q'.micro.exiting = true → q'.op.isInitialize = false
  marking : q'.micro ≠ .markReady
  negotiating : q'.micro.negotiating = false

theorem ioctlGate_seq {pdrv : Byte} {body : Result} (h : p.ioctlGate pdrv body = .next t)
    (hbody : body = .next t → p.seq.Begins t.seq) : t.seq = p.seq ∨ p.seq.Begins t.seq := by
  obtain ⟨-, h⟩ := whenIdle_next h
  split_ifs at h
  · cases h; exact .inl rfl
  · cases h; exact .inl rfl
  · exact .inr (hbody h)

theorem begins_startQuery (pdrv code : Byte) (app : Bool) (idx : Index) :
    p.seq.Begins (p.startQuery pdrv code app idx).seq :=
  ⟨rfl, nofun, nofun, rfl⟩

theorem begins_startWrite (op : HostOp) (sector : Sector) (count : Byte) :
    p.seq.Begins ((p.startTransfer op sector count).startWrite sector count).seq := by
  unfold State.startWrite
  split_ifs <;> exact ⟨rfl, nofun, nofun, rfl⟩

theorem execRead_seq {pdrv : Byte} {sector : Sector} {count : Byte} (h : execRead pdrv sector count p = .next t) :
    t.seq = p.seq ∨ p.seq.Begins t.seq := by
  obtain ⟨-, h⟩ := whenIdle_next h
  split_ifs at h <;> cases h
  · exact .inl rfl
  · exact .inl rfl
  all_goals exact .inr ⟨rfl, nofun, nofun, rfl⟩

theorem execWrite_seq {pdrv : Byte} {sector : Sector} {count : Byte} (h : execWrite pdrv sector count p = .next t) :
    t.seq = p.seq ∨ p.seq.Begins t.seq := by
  obtain ⟨-, h⟩ := whenIdle_next h
  split_ifs at h <;> cases h
  case neg => exact .inr (begins_startWrite _ _ _)
  all_goals exact .inl rfl

theorem exec_decodeIoctl_seq {pdrv code : Byte} (h : exec (decodeIoctl pdrv code) p = .next t) :
    t.seq = p.seq ∨ p.seq.Begins t.seq := by
  unfold decodeIoctl at h
  split_ifs at h <;> refine ioctlGate_seq h fun h => ?_
  · cases h; exact ⟨rfl, nofun, nofun, rfl⟩
  · cases h; exact begins_startQuery _ _ _ _
  · split at h <;> cases h <;> exact begins_startQuery _ _ _ _
  · cases h; exact ⟨rfl, fun _ => rfl, nofun, rfl⟩
  · cases h; exact begins_startQuery _ _ _ _
  · cases h; exact begins_startQuery _ _ _ _
  · cases h; exact begins_startQuery _ _ _ _
  · split at h <;> cases h
    · exact begins_startQuery _ _ _ _
    · exact ⟨rfl, fun _ => rfl, nofun, rfl⟩
  · cases h; exact ⟨rfl, fun _ => rfl, nofun, rfl⟩

theorem takeUp_request_seq {w : RequestWord} (h : takeUp (.request w) p = .next t) :
    t.seq = p.seq ∨ p.seq.Begins t.seq := by
  unfold takeUp at h
  split at h
  next i hd =>
    simp only [decode, decodeRequest] at hd
    split_ifs at hd <;> cases hd
    · obtain ⟨-, h⟩ := whenIdle_next h
      cases h; exact .inl rfl
    · obtain ⟨-, h⟩ := whenIdle_next h
      split_ifs at h <;> cases h
      · exact .inl rfl
      · exact .inr ⟨rfl, nofun, nofun, rfl⟩
    · exact execRead_seq h
    · exact execWrite_seq h
    · exact exec_decodeIoctl_seq h
  · cases h

/-! ### What a step can do to `SEQ` -/

/-- The moves of a step, by what they do to `SEQ`. -/
inductive SeqChange (s t : State) : Prop where
  | foreground (busy : s.seq.busy = true) (h : ForegroundMove s.popEvent s.seq.micro t)
  | begins (idle : s.seq.busy = false) (h : s.seq.Begins t.seq) (stat : t.stat = s.stat) (ct : t.ct = s.ct)
      (cs : t.cs = s.cs)
  | reset (h : t = s.popEvent.applyReset)
  /-- A tick samples `STAT`, any other move of this kind leaves it. -/
  | stays (seq : t.seq = s.seq) (stat : t.stat = s.stat ∨ t.stat = s.stat.sampled s.cdPresent s.wpActive)
      (ct : t.ct = s.ct) (cs : t.cs = s.cs)

theorem step_seq (h : step s = .next t) : SeqChange s t := by
  cases he : s.nextEvent with
  | foreground =>
    cases hb : s.seq.busy with
    | true => exact .foreground hb (step_foreground_move he hb h)
    | false =>
      rw [step_foreground_idle he hb] at h
      cases h
      exact .stays (by simp) (.inl (by simp)) (by simp) (by simp)
  | tick => rw [step_tick he] at h; cases h; exact .stays (by simp) (.inr (by simp)) (by simp) (by simp)
  | lines cd wp => rw [step_lines he] at h; cases h; exact .stays (by simp) (.inl (by simp)) (by simp) (by simp)
  | reset => rw [step_reset he] at h; cases h; exact .reset rfl
  | hostWrite buffer offset b =>
    rw [step_hostWrite he] at h
    unfold State.hostWrites at h
    split_ifs at h
    cases h
    exact .stays (by simp) (.inl (by simp)) (by simp) (by simp)
  | request buffer w =>
    have stat : t.stat = s.stat := by simpa [he] using step_stat h
    have ct : t.ct = s.ct := by simpa [he] using step_ct h
    have cs : t.cs = s.cs := by simpa [he] using step_cs_of_ne_foreground (by simp [he]) h
    rw [step_request he] at h
    have idle : s.seq.busy = false := by simpa using (takeUp_request_change h).1
    rcases takeUp_request_seq h with hseq | hbegin
    · exact .stays (by simpa using hseq) (.inl stat) ct cs
    · exact .begins idle (by simpa using hbegin) stat ct cs

/-! ### The buffers and the card type (R23, R32 items 1 and 5) -/

theorem step_buffers (h : step s = .next t) :
    t.buffers = s.buffers ∨ ∃ a b, t.buffers = Memory.write s.buffers a b := by
  cases step_cases h
  case busStore _ _ _ _ _ _ _ h | busScrStore _ _ _ _ _ _ h | storeType _ _ _ _ h =>
    exact .inr ⟨_, _, by simpa using h.buffers⟩
  case hostWrite buffer offset b _ _ _ h => subst h; exact .inr ⟨bufferCell buffer offset, b, by simp⟩
  case tick _ h => cases h; exact .inl (by simp)
  case reset _ h | lines _ _ _ h => subst h; exact .inl (State.taken_buffers s)
  all_goals
    rename ControlOnly _ _ => h
    exact .inl (by simpa using h.buffers)

theorem step_keeps_bufferCanonical (h : step s = .next t) (hs : BufferCanonical s) : BufferCanonical t := by
  unfold BufferCanonical
  rcases step_buffers h with hb | ⟨a, b, hb⟩ <;> rw [hb]
  · exact hs
  · exact Memory.wf_write a b hs

theorem finish_seq_ty : s.finish.seq.ty = s.seq.ty := by
  cases hop : s.seq.op.isInitialize with
  | true => rw [finish_of_initialize s hop]; rfl
  | false => obtain ⟨r, hr⟩ := finish_of_not_initialize s hop; rw [hr]; rfl

theorem ForegroundMove.keeps_legalType {m : Micro} (h : ForegroundMove p m t) (hp : legalCardType p.seq.ty = true) :
    legalCardType t.seq.ty = true := by
  cases h with
  | continues _ _ seq base =>
    obtain ⟨hseq, -, -, -⟩ := standing_eq_iff.mp base
    exact seq.type (hseq ▸ hp)
  | finish => rw [finish_seq_ty]; exact hp
  | rests | powersUp | keepsPoweringUp | command | deselect | select | commit | markReady | clockFast | powerOff
  | markFailed | report => exact hp

theorem step_keeps_cardTypeLegal (h : step s = .next t) (hs : CardTypeLegal s) : CardTypeLegal t := by
  obtain ⟨hct, hty⟩ := hs
  constructor
  · rcases step_ct h with heq | ⟨-, heq⟩ | ⟨-, -, heq⟩ <;> rw [heq]
    · exact hct
    · rfl
    · exact hty
  · cases step_seq h with
    | foreground _ h => exact h.keeps_legalType (by simpa using hty)
    | begins _ h => rw [h.type]; exact hty
    | reset h => rw [h]; rfl
    | stays seq => rw [seq]; exact hty

/-- Settles O55: a step writes the buffers byte by byte, and the card type only with a legal value. -/
theorem stepKeepsBufferAndType : Obligations.StepKeepsBufferAndType :=
  fun _ _ h => ⟨step_keeps_bufferCanonical h, step_keeps_cardTypeLegal h⟩

/-! ### The card is released when `SEQ` is Idle (R32 item 3) -/

theorem CardReleased.of_eq (hs : CardReleased s) (seq : t.seq = s.seq) (cs : t.cs = s.cs) : CardReleased t := by
  unfold CardReleased
  rw [seq, cs]
  exact hs

theorem ForegroundMove.keeps_cardReleased {m : Micro} (h : ForegroundMove p m t) (hm : p.seq.micro = m)
    (hb : p.seq.busy = true) (hp : CardReleased p) : CardReleased t := by
  have stillReleased (hr : m.released = true) : p.cs = .deasserted := hp (.inr (hm ▸ hr))
  cases h with
  | rests => exact hp
  | continues _ _ seq base =>
    obtain ⟨hseq, -, -, -⟩ := standing_eq_iff.mp base
    rintro (hi | hr)
    · rw [seq.busy, hseq, hb] at hi; cases hi
    · rw [seq.place.released] at hr; cases hr
  | command | deselect => exact fun _ => rfl
  | select | commit =>
    rintro (hi | hr)
    · cases hb.symm.trans hi
    · cases hr
  | finish => exact fun _ => (ControlOnly.cs (s := p.send Config.fill) (masked_finish _)).trans (stillReleased rfl)
  | powersUp | keepsPoweringUp | markReady | clockFast | powerOff | markFailed | report =>
    exact fun _ => stillReleased rfl

/-- Settles O56: a place at which the card is released is reached from another such place, or with `CS` deasserted by the
move itself. -/
theorem stepKeepsCardReleased : Obligations.StepKeepsCardReleased := by
  intro s t hs h
  cases step_seq h with
  | foreground hb h =>
    exact h.keeps_cardReleased (by simp) (by simpa using hb) (hs.of_eq (by simp) (by simp))
  | begins idle _ _ _ cs => exact fun _ => cs.trans (hs (.inl idle))
  | reset h => rw [h]; exact fun _ => rfl
  | stays seq _ _ cs => exact hs.of_eq seq cs

/-! ### A Ready drive has a card type (R32 item 4) -/

theorem ReadyHasType.of_eq (hs : ReadyHasType s) (seq : t.seq = s.seq) (ct : t.ct = s.ct)
    (stat : t.stat.notInitialized = false → s.stat.notInitialized = false) : ReadyHasType t := by
  obtain ⟨hc, hm, hn, hr⟩ := hs
  constructor <;> simp only [seq, ct]
  · exact hc
  · exact hm
  · exact hn
  · exact fun h => hr (stat h)

/-- Where no clause but the last speaks. -/
theorem ReadyHasType.of_type (exiting : t.seq.micro.exiting = true → t.seq.op.isInitialize = false)
    (marking : t.seq.micro ≠ .markReady)
    (negotiating : t.seq.micro.negotiating = true → t.seq.op.isInitialize = true)
    (ready : t.stat.notInitialized = false → t.ct ≠ Config.ctNone) : ReadyHasType t where
  committed _ ho hx := by rw [exiting hx] at ho; cases ho
  marking _ hm := absurd hm marking
  negotiating _ := negotiating
  ready h := .inl (ready h)

theorem ReadyHasType.type_of_idle (hs : ReadyHasType s) (idle : s.seq.busy = false)
    (h : s.stat.notInitialized = false) : s.ct ≠ Config.ctNone := by
  rcases hs.ready h with hct | ⟨hb, -⟩
  · exact hct
  · rw [idle] at hb; cases hb

theorem ReadyHasType.type_of_not_updating (hs : ReadyHasType s) (place : s.seq.micro.updating = false)
    (h : s.stat.notInitialized = false) : s.ct ≠ Config.ctNone := by
  rcases hs.ready h with hct | ⟨-, ⟨-, hx⟩ | hm | hm⟩
  · exact hct
  · rw [Micro.updating_of_exiting hx] at place; cases place
  · rw [hm] at place; cases place
  · rw [hm] at place; cases place

theorem ReadyHasType.type_of_exiting (hs : ReadyHasType s) (place : s.seq.micro.exiting = true)
    (h : s.stat.notInitialized = false) : s.ct ≠ Config.ctNone ∨ s.seq.busy = true ∧ s.seq.op.isInitialize = true := by
  rcases hs.ready h with hct | ⟨hb, ⟨hop, -⟩ | hm | hm⟩
  · exact .inl hct
  · exact .inr ⟨hb, hop⟩
  · rw [hm] at place; cases place
  · rw [hm] at place; cases place

/-- The closing `DESELECT` of `INITIALIZE` is done: the branch of R158 is that of the committed type. -/
theorem readyHasType_finish_initialize (hp : ReadyHasType p) (hm : p.seq.micro = .deselectDummy .exit)
    (hb : p.seq.busy = true) (hop : p.seq.op.isInitialize = true) :
    ReadyHasType (p.send Config.fill).finish := by
  have committed : p.ct = p.seq.ty := hp.committed hb hop (by rw [hm]; rfl)
  rw [finish_of_initialize (p.send Config.fill) hop, State.send_seq]
  split
  next => exact ⟨nofun, nofun, nofun, fun _ => .inr ⟨hb, .inr (.inl rfl)⟩⟩
  next hty =>
    have typed : p.ct ≠ Config.ctNone := committed ▸ hty
    exact ⟨nofun, fun _ _ => typed, nofun, fun _ => .inl typed⟩

theorem readyHasType_deliver (r : HostResult) (ready : p.stat.notInitialized = false → p.ct ≠ Config.ctNone) :
    ReadyHasType (p.deliver r) :=
  .of_type nofun nofun nofun ready

/-- The closing `DESELECT` of another operation is done. -/
theorem readyHasType_finish_other (hp : ReadyHasType p) (hm : p.seq.micro = .deselectDummy .exit)
    (hop : p.seq.op.isInitialize = false) : ReadyHasType (p.send Config.fill).finish := by
  obtain ⟨r, hr⟩ := finish_of_not_initialize (p.send Config.fill) hop
  rw [hr]
  refine readyHasType_deliver r fun h => ?_
  rcases hp.type_of_exiting (by rw [hm]; rfl) h with hct | ⟨-, ho⟩
  · exact hct
  · cases hop.symm.trans ho

/-- The first half of the closing `DESELECT` leaves what is known of an exiting operation. -/
theorem readyHasType_deselectExit (hp : ReadyHasType p) (hm : p.seq.micro = .deselectLatch .exit) :
    ReadyHasType ((p.setCs .deasserted).goto (.deselectDummy .exit)) where
  committed hb ho _ := hp.committed hb ho (by rw [hm]; rfl)
  marking := nofun
  negotiating := nofun
  ready h := by
    rcases hp.type_of_exiting (by rw [hm]; rfl) h with hct | ⟨hb, ho⟩
    · exact .inl hct
    · exact .inr ⟨hb, .inl ⟨ho, rfl⟩⟩

/-- The commit (R158). -/
theorem readyHasType_commit (hp : ReadyHasType p) (hm : p.seq.micro = .commit) (hb : p.seq.busy = true) :
    ReadyHasType (({ p with ct := p.seq.ty } : State).goto (.deselectLatch .exit)) where
  committed _ _ _ := rfl
  marking := nofun
  negotiating := nofun
  ready _ := .inr ⟨hb, .inl ⟨hp.negotiating hb (by rw [hm]; rfl), rfl⟩⟩

/-- Control flow inside the operation, from a place outside the update of R158. -/
theorem readyHasType_continues (hp : ReadyHasType p) (hb : p.seq.busy = true) (seq : p.seq.Continues t.seq)
    (ready : t.stat.notInitialized = false → t.ct ≠ Config.ctNone) : ReadyHasType t := by
  obtain ⟨-, op, -, released, exiting, negotiating⟩ := seq
  refine .of_type (fun hx => by rw [op]; exact exiting hx) ?_ (fun hn => ?_) ready
  · intro hm
    rw [hm] at released
    cases released
  · rw [op]
    exact (negotiating hn).elim id (hp.negotiating hb)

theorem ForegroundMove.keeps_readyHasType {m : Micro} (h : ForegroundMove p m t) (hm : p.seq.micro = m)
    (hb : p.seq.busy = true) (hp : ReadyHasType p) : ReadyHasType t := by
  have typed (hu : m.updating = false) : p.stat.notInitialized = false → p.ct ≠ Config.ctNone :=
    hp.type_of_not_updating (hm ▸ hu)
  cases h with
  | rests => exact hp
  | continues place control seq base =>
    obtain ⟨hseq, hstat, hct, -⟩ := standing_eq_iff.mp base
    refine readyHasType_continues hp hb (hseq ▸ seq) ?_
    rw [control.stat, control.ct, hstat, hct]
    exact typed place
  | deselect c =>
    cases c with
    | exit => exact readyHasType_deselectExit hp hm
    | command | selectFailed => exact .of_type nofun nofun nofun (typed rfl)
  | commit => exact readyHasType_commit hp hm hb
  | finish =>
    cases hop : p.seq.op.isInitialize with
    | true => exact readyHasType_finish_initialize hp hm hb hop
    | false => exact readyHasType_finish_other hp hm hop
  | markReady => exact .of_type nofun nofun nofun fun _ => hp.marking hb hm
  | powerOff => exact ⟨nofun, nofun, nofun, fun _ => .inr ⟨hb, .inr (.inr rfl)⟩⟩
  | markFailed => exact .of_type nofun nofun nofun nofun
  | command | select | powersUp | keepsPoweringUp | clockFast => exact .of_type nofun nofun nofun (typed rfl)
  | report => exact readyHasType_deliver _ (typed rfl)

theorem step_keeps_readyHasType (hs : ReadyHasType s) (h : step s = .next t) : ReadyHasType t := by
  cases step_seq h with
  | foreground hb h =>
    exact h.keeps_readyHasType (by simp) (by simpa using hb) (hs.of_eq (by simp) (by simp) (by simp))
  | begins idle seq stat ct =>
    refine .of_type seq.exiting seq.marking (fun hn => ?_) ?_
    · rw [seq.negotiating] at hn; cases hn
    · rw [stat, ct]
      exact hs.type_of_idle idle
  | reset h => rw [h]; exact .of_type nofun nofun nofun nofun
  | stays seq stat ct =>
    refine hs.of_eq seq ct fun hi => ?_
    rcases stat with heq | heq <;> rw [heq] at hi
    · exact hi
    · simp only [DriveStatus.sampled, Bool.or_eq_false_iff] at hi
      exact hi.1

/-- Settles O57: only the branch of R158 that follows the commit of a card type clears `NotInitialized`. -/
theorem stepKeepsReadyHasType : Obligations.StepKeepsReadyHasType :=
  ⟨fun _ _ hs h => step_keeps_readyHasType hs h, fun _ hs ⟨idle, initialized⟩ => hs.type_of_idle idle initialized⟩

end Sys2Proof.Machine
end

section
/-! PROOFS. O1, O3, O44, O45, O54: the reset state, the status byte, and what a step takes up. -/

namespace Sys2Proof.Machine

variable {s : State}

/-- Settles O1: the values of `State.reset`. -/
theorem resetState : Obligations.ResetState :=
  ⟨rfl, rfl, rfl, rfl, rfl, rfl, rfl, rfl, rfl, rfl⟩

/-- Settles O3, at each of the eight values of the three flags. -/
theorem statusByteLayout : Obligations.StatusByteLayout := by
  rintro ⟨a, b, c⟩
  revert a b c
  decide

/-- Settles O54: `SEQ` is Idle, its phase `Reset` and `NotInitialized` set, so no clause about a running operation, a later
phase or a Ready drive speaks. -/
theorem resetMeetsInvariants : Obligations.ResetMeetsInvariants :=
  ⟨rfl, ⟨rfl, rfl⟩, fun _ => rfl, .of_type nofun nofun nofun nofun, ⟨nofun, nofun, nofun, nofun, nofun, nofun⟩,
    ⟨nofun, nofun, nofun, nofun, nofun, nofun⟩, nofun⟩

/-! ### What a step takes up -/

theorem step_of_signal {sig : Signal} {i : Instr} (hs : s.taken.signal s.nextEvent = some sig)
    (hd : decode sig = .ok i) : step s = exec i s.taken := by
  simp only [step, hs, takeUp, hd]

/-- Settles O44: `step` reads the port of the agent that moves. -/
theorem stepRunsDecoded : Obligations.StepRunsDecoded := by
  refine fun s sig i hs hd => ⟨step_of_signal hs hd, ?_⟩
  unfold State.taken State.present
  cases s.nextEvent <;> rfl

/-! ### The place of a word of the opcode table (log entry 18) -/

theorem frame_of_decode {app : Bool} {w : FrameWord} {i : Instr} (h : decode (.frame app w) = .ok i) :
    frameOf (frameIndex w) (frameArg w) = w := by
  simp only [decode, decodeFrame] at h
  split_ifs at h with hs hc
  exact frameOf_fields w hs hc

theorem tokenOfByte_of_decode {b : Byte} {i : Instr} (h : decode (.sentToken b) = .ok i) : (tokenOfByte b).byte = b := by
  simp only [decode, decodeSentToken] at h
  split_ifs at h with hs hm ht
  · subst hs; rfl
  · subst hm; rfl
  · subst ht; rfl

/-- A signal that decodes, once placed, is what stands on the port of the agent whose move is next. -/
theorem place_signal {sig : Signal} {i : Instr} (h : decode sig = .ok i) :
    (s.place sig).taken.signal (s.place sig).nextEvent = some sig := by
  cases sig with
  | frame app w =>
    change some (Signal.frame app (frameOf (frameIndex w) (frameArg w))) = _
    rw [frame_of_decode h]
  | sentToken b =>
    change some (Signal.sentToken (tokenOfByte b).byte) = _
    rw [tokenOfByte_of_decode h]
  | event line =>
    simp only [decode] at h
    split_ifs at h with hl
    subst hl
    rfl
  | response | startToken | readyByte | dataResponse | request => rfl

theorem decodeTableWord_eq_some {nbits w : Nat} {i : Instr} (h : decodeTableWord nbits w = some i) :
    ∃ sig, tableSignal nbits w = some sig ∧ decode sig = .ok i := by
  unfold decodeTableWord at h
  split at h
  · cases h
  next sig hs =>
    split at h
    next j hd => cases h; exact ⟨sig, hs, hd⟩
    next => cases h

/-- Settles O45: a table word that decodes is placed as the signal it decodes from. -/
theorem tableWordRuns : Obligations.TableWordRuns := by
  intro s nbits w i h
  obtain ⟨sig, hs, hd⟩ := decodeTableWord_eq_some h
  have hplace : s.withFetchWord nbits w = s.place sig := by
    simp only [State.withFetchWord, State.placeTableWord, hs]
  rw [hplace]
  exact step_of_signal (place_signal hd) hd

end Sys2Proof.Machine
end

section
/-! PROOFS. The account of a transfer: the sectors moved and owed, by the place of the sequencer, and that the returns
of the micro-operations keep it. -/

namespace Sys2Proof.Machine

/-! ### The account of a transfer -/

/-- The block loop of a transfer runs (R170 to R172): `CMD12` is not yet called, a sector is owed, and the sectors moved
and owed are within the contract. Nothing is said of an operation that is no transfer. -/
def Seq.Owes (q : Seq) : Prop :=
  (q.op.isRead = true → q.site ≠ .stop) ∧
    (q.op.isRead = true ∨ q.op.isWrite = true → 1 ≤ q.owed ∧ q.moved + q.owed ≤ Config.countMax)

/-- `READ` has called its `CMD12` (R120, R170). -/
def Seq.Stopped (q : Seq) : Prop := q.op.isRead = true ∧ q.site = .stop

/-- The byte count of a place is within its block (R76, R140, R141), and `SENDBLOCK` is `WRITE`'s. -/
def Micro.fits (op : HostOp) : Micro → Bool
  | .payloadIn i => decide (i < op.blockLen)
  | .payloadOut _ i => decide (i < Config.sectorSize) && op.isWrite
  | .rawIn i => decide (i < Config.ocrLen)
  | m => !m.inBlockOut || op.isWrite

/-- `TransferBounded` of a `SEQ` with a running operation, by the place it stands at. -/
structure Seq.WithinBounds (q : Seq) : Prop where
  place : q.micro.fits q.op = true
  account : q.Owes ∨ q.Stopped ∧ q.micro.inCommand = true ∨ q.micro.exiting = true ∨ q.micro.stopping = true

theorem Micro.fits_of_inCommand {m : Micro} (op : HostOp) (h : m.inCommand = true) : m.fits op = true := by
  unfold Micro.inCommand at h
  split at h
  case h_12 => cases h
  all_goals rfl

theorem Micro.isWrite_of_fits {m : Micro} {op : HostOp} (h : m.fits op = true) (hm : m.inBlockOut = true) :
    op.isWrite = true := by
  unfold Micro.fits at h
  split at h
  · cases hm
  · exact (Bool.and_eq_true_iff.mp h).2
  · cases hm
  · simpa [hm] using h

theorem Micro.inCommand_of_exiting {m : Micro} (h : m.exiting = true) : m.inCommand = true := by
  unfold Micro.exiting at h
  split at h
  · rfl
  · rfl
  · cases h

theorem Micro.inBlockOut_of_stopping {m : Micro} (h : m.stopping = true) : m.inBlockOut = true := by
  unfold Micro.stopping at h
  split at h
  case h_5 => cases h
  all_goals rfl

theorem HostOp.isRead_eq_false_of_isWrite {op : HostOp} (h : op.isWrite = true) : op.isRead = false := by
  cases op with
  | write => rfl
  | _ => cases h

theorem HostOp.not_transfer_of_initialize {op : HostOp} (h : op.isInitialize = true) :
    (op.isRead || op.isWrite) = false := by
  cases op with
  | initializeDrive => rfl
  | _ => cases h

theorem TransferBounded.withinBounds {s : State} (h : TransferBounded s) (hb : s.seq.busy = true) :
    s.seq.WithinBounds := by
  obtain ⟨stopRead, blockOut, owes, payloadIn, payloadOut, rawIn⟩ := h
  constructor
  · cases hm : s.seq.micro with
    | payloadIn i => exact decide_eq_true (payloadIn i hb hm)
    | payloadOut k i => simp [Micro.fits, payloadOut k i hb hm, blockOut hb (by rw [hm]; rfl)]
    | rawIn i => exact decide_eq_true (by simpa using rawIn i hb hm)
    | readyArm c | readyPoll c | readyTest c =>
      cases c with
      | select => rfl
      | block => exact blockOut hb (by rw [hm]; rfl)
    | token | crcOut | dataResponse => exact blockOut hb (by rw [hm]; rfl)
    | _ => rfl
  · by_cases hstop : s.seq.Stopped
    · exact .inr (.inl ⟨hstop, stopRead hb hstop.1 hstop.2⟩)
    have site (hr : s.seq.op.isRead = true) : s.seq.site ≠ .stop := fun hs => hstop ⟨hr, hs⟩
    by_cases htransfer : s.seq.op.isRead = true ∨ s.seq.op.isWrite = true
    · rcases owes hb htransfer with h | hx | hs | h
      · exact absurd h hstop
      · exact .inr (.inr (.inl hx))
      · exact .inr (.inr (.inr hs))
      · exact .inl ⟨site, fun _ => h⟩
    · exact .inl ⟨site, fun h => absurd h htransfer⟩

theorem TransferBounded.of_withinBounds {s : State} (h : s.seq.busy = true → s.seq.WithinBounds) :
    TransferBounded s where
  stopRead hb hr hsite := by
    rcases (h hb).account with ho | ⟨-, hc⟩ | hx | hs
    · exact absurd hsite (ho.1 hr)
    · exact hc
    · exact Micro.inCommand_of_exiting hx
    · have hw := Micro.isWrite_of_fits (h hb).place (Micro.inBlockOut_of_stopping hs)
      rw [HostOp.isRead_eq_false_of_isWrite hw] at hr
      cases hr
  blockOut hb hm := Micro.isWrite_of_fits (h hb).place hm
  owes hb htransfer := by
    rcases (h hb).account with ho | ⟨hstop, -⟩ | hx | hs
    · exact .inr (.inr (.inr (ho.2 htransfer)))
    · exact .inl hstop
    · exact .inr (.inl hx)
    · exact .inr (.inr (.inl hs))
  payloadIn i hb hm := by
    have place := (h hb).place
    rw [hm] at place
    exact of_decide_eq_true place
  payloadOut k i hb hm := by
    have place := (h hb).place
    rw [hm] at place
    exact of_decide_eq_true (Bool.and_eq_true_iff.mp place).1
  rawIn i hb hm := by
    have place := (h hb).place
    rw [hm] at place
    simpa using of_decide_eq_true place

/-! ### The places a move can be made from, and lead to -/

section Places

variable {q : Seq}

theorem Seq.owes_of_not_transfer (h : (q.op.isRead || q.op.isWrite) = false) : q.Owes := by
  simp only [Bool.or_eq_false_iff] at h
  simp [Seq.Owes, h]

theorem Seq.Owes.moved_lt (h : q.Owes) (ht : q.op.isRead = true ∨ q.op.isWrite = true) :
    q.moved < Config.countMax := by
  obtain ⟨howed, hle⟩ := h.2 ht
  omega

theorem Seq.owes_of_isWrite (h : q.Owes ∨ q.Stopped) (hw : q.op.isWrite = true) : q.Owes := by
  rcases h with ho | ⟨hr, -⟩
  · exact ho
  · rw [HostOp.isRead_eq_false_of_isWrite hw] at hr
    cases hr

namespace Seq.WithinBounds

theorem owes (h : q.WithinBounds) (hm : (q.micro.inCommand || q.micro.stopping) = false) : q.Owes := by
  obtain ⟨hc, hs⟩ := Bool.or_eq_false_iff.mp hm
  rcases h.account with ho | ⟨-, hc'⟩ | hx | hs'
  · exact ho
  · cases hc.symm.trans hc'
  · cases hc.symm.trans (Micro.inCommand_of_exiting hx)
  · cases hs.symm.trans hs'

theorem owes_or_stopped (h : q.WithinBounds) (hm : (q.micro.exiting || q.micro.stopping) = false) :
    q.Owes ∨ q.Stopped := by
  obtain ⟨hx, hs⟩ := Bool.or_eq_false_iff.mp hm
  rcases h.account with ho | ⟨hstop, -⟩ | hx' | hs'
  · exact .inl ho
  · exact .inr hstop
  · cases hx.symm.trans hx'
  · cases hs.symm.trans hs'

theorem of_command (h : q.Owes ∨ q.Stopped) (hm : q.micro.inCommand = true) : q.WithinBounds :=
  ⟨Micro.fits_of_inCommand _ hm, h.elim .inl fun hstop => .inr (.inl ⟨hstop, hm⟩)⟩

theorem of_exiting (hm : q.micro.exiting = true) : q.WithinBounds :=
  ⟨Micro.fits_of_inCommand _ (Micro.inCommand_of_exiting hm), .inr (.inr (.inl hm))⟩

end Seq.WithinBounds

/-- The account of a transfer inside a `WAITREADY` (R106, R141). -/
def Seq.Waits (q : Seq) : ReadyCaller → Prop
  | .select _ => q.Owes ∨ q.Stopped
  | .block k => q.op.isWrite = true ∧ (k ≠ .stopTran → q.Owes)

/-- The places of the `WAITREADY` that `c` called (R107). -/
def Micro.InWaitOf (c : ReadyCaller) (m : Micro) : Prop := m = .readyArm c ∨ m = .readyPoll c ∨ m = .readyTest c

theorem Micro.InWaitOf.select {m : Micro} {c : SelectCaller} (h : m.InWaitOf (.select c)) :
    m.inCommand = true ∧ (m.exiting || m.stopping) = false := by
  obtain rfl | rfl | rfl := h <;> exact ⟨rfl, rfl⟩

theorem Micro.InWaitOf.block {m : Micro} {k : TxToken} (h : m.InWaitOf (.block k)) (op : HostOp) :
    m.inBlockOut = true ∧ m.inCommand = false ∧ m.fits op = op.isWrite := by
  obtain rfl | rfl | rfl := h <;> exact ⟨rfl, rfl, rfl⟩

theorem Micro.InWaitOf.stopping_iff {m : Micro} {k : TxToken} (h : m.InWaitOf (.block k)) :
    m.stopping = true ↔ k = .stopTran := by
  obtain rfl | rfl | rfl := h <;> cases k <;> simp [Micro.stopping]

theorem Seq.withinBounds_iff_waits {c : ReadyCaller} (hm : q.micro.InWaitOf c) : q.WithinBounds ↔ q.Waits c := by
  cases c with
  | select c =>
    obtain ⟨hc, hx⟩ := hm.select
    exact ⟨fun h => h.owes_or_stopped hx, fun h => .of_command h hc⟩
  | block k =>
    obtain ⟨hb, hc, hf⟩ := hm.block q.op
    constructor
    · refine fun h => ⟨Micro.isWrite_of_fits h.place hb, fun hk => h.owes ?_⟩
      rw [hc, Bool.false_or]
      exact Bool.eq_false_iff.mpr (mt hm.stopping_iff.mp hk)
    · refine fun ⟨hw, ho⟩ => ⟨hf.trans hw, ?_⟩
      by_cases hk : k = .stopTran
      · exact .inr (.inr (.inr (hm.stopping_iff.mpr hk)))
      · exact .inl (ho hk)

end Places

/-! ### The returns keep the account -/

section Returns

variable (s : State)

theorem withinBounds_closeWithValue (v : Option Word32) : (s.closeWithValue v).seq.WithinBounds := by
  cases v <;> exact .of_exiting rfl

theorem withinBounds_call {site : Site} (app : Bool) (idx : Index) (arg : Argument) (ho : s.seq.Owes)
    (hs : site ≠ .stop) : (s.call site app idx arg).seq.WithinBounds :=
  ⟨rfl, .inl ⟨fun _ => hs, ho.2⟩⟩

theorem withinBounds_failInit (ho : s.seq.Owes) : s.failInit.seq.WithinBounds := by
  unfold State.failInit
  split <;> exact ⟨rfl, .inl ho⟩

theorem withinBounds_exitOp : s.exitOp.seq.WithinBounds := by
  unfold State.exitOp
  split
  next h => exact withinBounds_failInit s (Seq.owes_of_not_transfer (by rw [h]; rfl))
  next => exact .of_exiting rfl

theorem withinBounds_pollCommand (ho : s.seq.Owes) : s.pollCommand.seq.WithinBounds := by
  unfold State.pollCommand
  split
  · exact withinBounds_call s _ _ _ ho nofun
  · split <;> exact withinBounds_call s _ _ _ ho nofun

theorem withinBounds_pollSucceeded (ho : s.seq.Owes) : s.pollSucceeded.seq.WithinBounds := by
  unfold State.pollSucceeded
  split
  · exact withinBounds_call s _ _ _ ho nofun
  · exact withinBounds_call (s.enterPhase _ _) _ _ _ ho nofun
  · exact withinBounds_failInit s ho

theorem withinBounds_initReturn (r : Byte) (ho : s.seq.Owes) : (s.initReturn r).seq.WithinBounds := by
  have fails := withinBounds_failInit s ho
  unfold State.initReturn
  split
  · split
    · exact ⟨rfl, .inl ho⟩
    · exact fails
  · split
    · exact ⟨rfl, .inl ho⟩
    · exact withinBounds_call (s.enterPhase _ _) _ _ _ ho nofun
  · split
    · split <;> exact ⟨rfl, .inl ho⟩
    · split
      · exact ⟨rfl, .inl ho⟩
      · exact fails
  · split
    · split <;> exact ⟨rfl, .inl ho⟩
    · exact ⟨rfl, .inl ho⟩
  · split
    · exact ⟨rfl, .inl ho⟩
    · exact fails
  · exact ⟨rfl, .inl ho⟩
  · exact ⟨rfl, .inl ho⟩

theorem withinBounds_initRaw (ho : s.seq.Owes) : s.initRaw.seq.WithinBounds := by
  have fails := withinBounds_failInit s ho
  unfold State.initRaw
  split
  · split
    · exact ⟨rfl, .inl ho⟩
    · exact fails
  · exact ⟨rfl, .inl ho⟩
  · exact fails

theorem withinBounds_readReturn (r : Byte) (h : s.seq.Owes ∨ s.seq.Stopped) :
    (s.readReturn r).seq.WithinBounds := by
  unfold State.readReturn
  split
  · exact .of_exiting rfl
  next hsite =>
    split
    · rcases h with ho | ⟨-, hs⟩
      · exact ⟨rfl, .inl ho⟩
      · exact absurd hs hsite
    · exact .of_exiting rfl

/-- A block is counted, and more are owed. -/
theorem owes_countBlock (ho : s.seq.Owes) (hmore : s.seq.owed - 1 ≠ 0) : s.countBlock.seq.Owes := by
  refine ⟨ho.1, fun h => ?_⟩
  obtain ⟨-, hle⟩ := ho.2 h
  simp only [State.countBlock_seq]
  omega

theorem withinBounds_readBlock (count : Byte) (received : Bool) (ho : s.seq.Owes) (hop : s.seq.op.isRead = true) :
    (s.readBlock count received).seq.WithinBounds := by
  unfold State.readBlock
  split
  · split <;> exact .of_exiting rfl
  · split
    · split
      · exact .of_command (.inr ⟨hop, rfl⟩) rfl
      next hmore => exact ⟨rfl, .inl (owes_countBlock s ho hmore)⟩
    · exact .of_command (.inr ⟨hop, rfl⟩) rfl

theorem withinBounds_writeReturn (count r : Byte) (ho : s.seq.Owes) (hop : s.seq.op.isWrite = true) :
    (s.writeReturn count r).seq.WithinBounds := by
  unfold State.writeReturn
  split
  · exact withinBounds_call s _ _ _ ho nofun
  · split
    · exact ⟨hop, .inl ho⟩
    · exact .of_exiting rfl

theorem withinBounds_writeBlock (k : TxToken) (sent : Bool) (ho : k ≠ .stopTran → s.seq.Owes)
    (hop : s.seq.op.isWrite = true) : (s.writeBlock k sent).seq.WithinBounds := by
  unfold State.writeBlock
  split
  · split <;> exact .of_exiting rfl
  · split
    · split
      · exact ⟨hop, .inr (.inr (.inr rfl))⟩
      next hmore => exact ⟨hop, .inl (owes_countBlock s (ho nofun) hmore)⟩
    · exact ⟨hop, .inr (.inr (.inr rfl))⟩
  · split <;> exact .of_exiting rfl

theorem withinBounds_queryReturn (code r : Byte) (ho : s.seq.Owes) :
    (s.queryReturn code r).seq.WithinBounds := by
  unfold State.queryReturn
  split
  · split_ifs <;> exact ⟨rfl, .inl ho⟩
  · exact .of_exiting rfl

theorem withinBounds_queryBlock (code : Byte) (received : Bool) (ho : s.seq.Owes) :
    (s.queryBlock code received).seq.WithinBounds := by
  unfold State.queryBlock
  split
  · split
    · exact withinBounds_closeWithValue s _
    · split
      · split
        · exact ⟨rfl, .inl ho⟩
        · exact withinBounds_closeWithValue s _
      · exact .of_exiting rfl
  · exact .of_exiting rfl

theorem withinBounds_operationReturn (r : Byte) (h : s.seq.Owes ∨ s.seq.Stopped) :
    (s.operationReturn r).seq.WithinBounds := by
  unfold State.operationReturn
  split
  next hop => exact withinBounds_initReturn s r (Seq.owes_of_not_transfer (by rw [hop]; rfl))
  next => exact withinBounds_readReturn s r h
  next hop =>
    have hw : s.seq.op.isWrite = true := by rw [hop]; rfl
    exact withinBounds_writeReturn s _ r (Seq.owes_of_isWrite h hw) hw
  next hop => exact withinBounds_queryReturn s _ r (Seq.owes_of_not_transfer (by rw [hop]; rfl))
  next => exact .of_exiting rfl

theorem withinBounds_commandReturn (pfx : Bool) (r : Byte) (h : s.seq.Owes ∨ s.seq.Stopped) :
    (s.commandReturn pfx r).seq.WithinBounds := by
  unfold State.commandReturn
  split
  · exact .of_command h rfl
  · exact withinBounds_operationReturn { s with resp := r } r h

theorem withinBounds_selectReturn (c : SelectCaller) (selected : Bool) (h : s.seq.Owes ∨ s.seq.Stopped) :
    (s.selectReturn c selected).seq.WithinBounds := by
  unfold State.selectReturn
  split
  · split
    · exact .of_command h rfl
    · exact withinBounds_commandReturn s _ _ h
  · split
    · split <;> exact .of_exiting rfl
    · exact withinBounds_exitOp s

theorem withinBounds_blockInReturn (received : Bool) (ho : s.seq.Owes) :
    (s.blockInReturn received).seq.WithinBounds := by
  unfold State.blockInReturn
  split
  next hop => exact withinBounds_readBlock s _ received ho (by rw [hop]; rfl)
  next => exact withinBounds_queryBlock s _ received ho
  next => exact withinBounds_exitOp s

theorem withinBounds_blockOutReturn (k : TxToken) (sent : Bool) (ho : k ≠ .stopTran → s.seq.Owes) :
    (s.blockOutReturn k sent).seq.WithinBounds := by
  unfold State.blockOutReturn
  split
  next hop => exact withinBounds_writeBlock s k sent ho (by rw [hop]; rfl)
  next => exact withinBounds_exitOp s

theorem withinBounds_token (k : TxToken) (ho : k ≠ .stopTran → s.seq.Owes) (hw : s.seq.op.isWrite = true) :
    (s.goto (.token k)).seq.WithinBounds := by
  refine ⟨hw, ?_⟩
  by_cases hk : k = .stopTran
  · subst hk; exact .inr (.inr (.inr rfl))
  · exact .inl (ho hk)

theorem withinBounds_readyReturn (c : ReadyCaller) (isReady : Bool) (h : s.seq.Waits c) :
    (s.readyReturn c isReady).seq.WithinBounds := by
  unfold State.readyReturn
  split
  · split
    · exact withinBounds_selectReturn s _ true h
    · exact .of_command h rfl
  · obtain ⟨hw, ho⟩ := h
    split
    · exact withinBounds_token s _ ho hw
    · exact withinBounds_blockOutReturn s _ false ho

theorem withinBounds_rawReturn : s.rawReturn.seq.WithinBounds := by
  unfold State.rawReturn
  split
  next hop => exact withinBounds_initRaw s (Seq.owes_of_not_transfer (by rw [hop]; rfl))
  next => exact .of_exiting rfl
  next => exact withinBounds_exitOp s

theorem withinBounds_purgeReturn : s.purgeReturn.seq.WithinBounds := by
  unfold State.purgeReturn
  split
  next => exact withinBounds_closeWithValue s _
  next => exact withinBounds_exitOp s

theorem withinBounds_afterPayloadIn (i : Nat) (ho : s.seq.Owes) : (s.afterPayloadIn i).seq.WithinBounds := by
  unfold State.afterPayloadIn
  split
  next hlt => exact ⟨decide_eq_true hlt, .inl ho⟩
  next => exact ⟨rfl, .inl ho⟩

theorem HostOp.blockLen_pos (op : HostOp) : 0 < op.blockLen := by
  unfold HostOp.blockLen
  split
  · decide
  · split <;> decide
  · decide

theorem withinBounds_afterPayloadOut (k : TxToken) (i : Nat) (ho : s.seq.Owes) (hw : s.seq.op.isWrite = true) :
    (s.afterPayloadOut k i).seq.WithinBounds := by
  unfold State.afterPayloadOut
  split
  next hlt => exact ⟨Bool.and_eq_true_iff.mpr ⟨decide_eq_true hlt, hw⟩, .inl ho⟩
  next => exact ⟨hw, .inl ho⟩

theorem withinBounds_afterRaw (i : Nat) (ho : s.seq.Owes) : (s.afterRaw i).seq.WithinBounds := by
  unfold State.afterRaw
  split
  next hlt => exact ⟨decide_eq_true (by simpa using hlt), .inl ho⟩
  next => exact withinBounds_rawReturn s

theorem withinBounds_afterFrameByte (pfx : Bool) (i : Nat) (h : s.seq.Owes ∨ s.seq.Stopped) :
    (s.afterFrameByte pfx i).seq.WithinBounds := by
  unfold State.afterFrameByte
  split_ifs <;> exact .of_command h rfl

end Returns

end Sys2Proof.Machine
end

section
/-! PROOFS. O59: a transfer stays within the contract's 128 sectors, and no access of it is beyond the host buffer. -/

namespace Sys2Proof.Machine

/-! ### The move of the foreground -/

/-- A move ends without a fault, and within the bounds if with a next state: both halves of O59 in one predicate, so that
the moves are gone through once. -/
def EndsBounded : Result → Prop
  | .next t => TransferBounded t
  | .fault _ => False
  | .refused _ => True

section Move

variable {p t : State}

theorem EndsBounded.of_running (h : t.seq.WithinBounds) : EndsBounded (.next t) :=
  TransferBounded.of_withinBounds fun _ => h

theorem EndsBounded.of_idle (h : t.seq.busy = false) : EndsBounded (.next t) :=
  TransferBounded.of_withinBounds fun hb => by rw [h] at hb; cases hb

theorem sectorOffset_lt {moved i : Nat} (hm : moved < Config.countMax) (hi : i < Config.sectorSize) :
    Config.sectorSize * moved + i < Config.bufferSize := by
  simp only [Config.countMax, Config.sectorSize, Config.bufferSize] at *
  omega

theorem HostOp.blockLen_le (op : HostOp) : op.blockLen ≤ Config.sectorSize := by
  unfold HostOp.blockLen
  split
  · exact Nat.le_refl _
  · split <;> decide
  · decide

/-- A payload byte within its block is within the host buffer. -/
theorem HostOp.payloadOffset_lt {op : HostOp} {moved i off : Nat} (h : op.payloadOffset moved i = some off)
    (hi : i < op.blockLen) (hm : op.isRead = true → moved < Config.countMax) : off < Config.bufferSize := by
  have hsector : i < Config.sectorSize := Nat.lt_of_lt_of_le hi op.blockLen_le
  unfold HostOp.payloadOffset at h
  split at h
  · cases h
    exact sectorOffset_lt (hm rfl) hsector
  · split at h <;> cases h
    exact Nat.lt_trans hsector (by decide)
  · cases h

theorem payloadInStep_bounded {i : Nat} (h : p.seq.WithinBounds) (hm : p.seq.micro = .payloadIn i) :
    EndsBounded (p.payloadInStep i) := by
  have ho : p.seq.Owes := h.owes (by rw [hm]; rfl)
  have hi : i < p.seq.op.blockLen := of_decide_eq_true (by simpa [hm, Micro.fits] using h.place)
  unfold State.payloadInStep
  split
  next off hoff =>
    rw [if_pos (HostOp.payloadOffset_lt hoff hi fun hr => ho.moved_lt (.inl hr))]
    exact .of_running (withinBounds_afterPayloadIn _ i ho)
  next => exact .of_running (withinBounds_afterPayloadIn _ i ho)

theorem payloadOutStep_bounded {k : TxToken} {i : Nat} (h : p.seq.WithinBounds)
    (hm : p.seq.micro = .payloadOut k i) : EndsBounded (p.payloadOutStep k i) := by
  have ho : p.seq.Owes := h.owes (by rw [hm]; rfl)
  have hw : p.seq.op.isWrite = true := Micro.isWrite_of_fits h.place (by rw [hm]; rfl)
  have hi : i < Config.sectorSize := by simpa [hm, Micro.fits, hw] using h.place
  unfold State.payloadOutStep
  rw [if_pos (sectorOffset_lt (ho.moved_lt (.inr hw)) hi)]
  exact .of_running (withinBounds_afterPayloadOut _ k i ho hw)

theorem rawInStep_bounded {i : Nat} (h : p.seq.WithinBounds) (hm : p.seq.micro = .rawIn i) :
    EndsBounded (p.rawInStep i) := by
  have ho : p.seq.Owes := h.owes (by rw [hm]; rfl)
  have hi : i < Config.ocrLen := by simpa [hm, Micro.fits] using h.place
  unfold State.rawInStep
  split
  · rw [if_pos (Nat.lt_trans hi (by decide))]
    exact .of_running (withinBounds_afterRaw _ i ho)
  · exact .of_running (withinBounds_afterRaw _ i ho)

theorem deselectDummy_bounded (c : DeselectCaller) (h : p.seq.WithinBounds) (hm : p.seq.micro = .deselectDummy c) :
    EndsBounded (.next ((p.send Config.fill).deselectReturn c)) := by
  cases c with
  | command pfx => exact .of_running (.of_command (h.owes_or_stopped (by rw [hm]; rfl)) rfl)
  | selectFailed c =>
    exact .of_running (withinBounds_selectReturn _ c false (h.owes_or_stopped (by rw [hm]; rfl)))
  | exit =>
    cases hop : p.seq.op.isInitialize with
    | true =>
      have ho : p.seq.Owes := Seq.owes_of_not_transfer (HostOp.not_transfer_of_initialize hop)
      change EndsBounded (.next (p.send Config.fill).finish)
      rw [finish_of_initialize _ (by simpa using hop)]
      split <;> exact .of_running ⟨rfl, .inl ho⟩
    | false =>
      obtain ⟨r, hr⟩ := finish_of_not_initialize (p.send Config.fill) hop
      change EndsBounded (.next (p.send Config.fill).finish)
      rw [hr]
      exact .of_idle rfl

theorem primitive_bounded (h : p.seq.WithinBounds) : EndsBounded p.primitive := by
  have stays : EndsBounded (.next p) := .of_running h
  unfold State.primitive
  generalize hm : p.seq.micro = m
  have owes (inside : (m.inCommand || m.stopping) = false) : p.seq.Owes := h.owes (hm ▸ inside)
  have carries (inside : (m.exiting || m.stopping) = false) : p.seq.Owes ∨ p.seq.Stopped :=
    h.owes_or_stopped (hm ▸ inside)
  have waits {c : ReadyCaller} (hc : m.InWaitOf c) : p.seq.Waits c := (Seq.withinBounds_iff_waits (hm ▸ hc)).mp h
  cases m with
  | rest => exact stays
  | clockSlow => exact .of_running ⟨rfl, .inl (owes rfl)⟩
  | powerUp left =>
    dsimp only
    split
    · exact .of_running ⟨rfl, .inl ⟨fun _ => nofun, (owes rfl).2⟩⟩
    · exact .of_running ⟨rfl, .inl (owes rfl)⟩
  | deselectLatch c =>
    cases c with
    | exit => exact .of_running (.of_exiting rfl)
    | command | selectFailed => exact .of_running (.of_command (carries rfl) rfl)
  | deselectDummy c => exact deselectDummy_bounded c h hm
  | selectLatch | selectDummy => exact .of_running (.of_command (carries rfl) rfl)
  | readyArm c =>
    exact .of_running ((Seq.withinBounds_iff_waits (.inr (.inl rfl))).mpr (waits (.inl rfl)))
  | readyTest c =>
    have hw : p.seq.Waits c := waits (.inr (.inr rfl))
    dsimp only
    split
    · exact .of_running (withinBounds_readyReturn p c false hw)
    · exact .of_running ((Seq.withinBounds_iff_waits (.inr (.inl rfl))).mpr hw)
  | frame pfx i => exact .of_running (withinBounds_afterFrameByte _ pfx i (carries rfl))
  | stuff => exact .of_running (.of_command (carries rfl) rfl)
  | tokenArm | discard => exact .of_running ⟨rfl, .inl (owes rfl)⟩
  | tokenTest =>
    dsimp only
    split
    · exact .of_running (withinBounds_blockInReturn p false (owes rfl))
    · exact .of_running ⟨rfl, .inl (owes rfl)⟩
  | payloadIn i => exact payloadInStep_bounded h hm
  | crcIn left =>
    dsimp only
    split
    · exact .of_running (withinBounds_blockInReturn _ true (owes rfl))
    · exact .of_running ⟨rfl, .inl (owes rfl)⟩
  | payloadOut k i => exact payloadOutStep_bounded h hm
  | crcOut k left =>
    have hw : p.seq.op.isWrite = true := Micro.isWrite_of_fits h.place (by rw [hm]; rfl)
    dsimp only
    split <;> exact .of_running ⟨hw, .inl (owes rfl)⟩
  | rawIn i => exact rawInStep_bounded h hm
  | purge left =>
    dsimp only
    split
    · exact .of_running (withinBounds_purgeReturn _)
    · exact .of_running ⟨rfl, .inl (owes rfl)⟩
  | armNegotiation => exact .of_running ⟨rfl, .inl ⟨fun _ => nofun, (owes rfl).2⟩⟩
  | pollTest =>
    dsimp only
    split
    · exact .of_running (withinBounds_failInit p (owes rfl))
    · exact .of_running (withinBounds_pollCommand p (owes rfl))
  | pollExit =>
    have succeeds : EndsBounded (.next p.pollSucceeded) := .of_running (withinBounds_pollSucceeded p (owes rfl))
    dsimp only
    split
    · exact succeeds
    · split
      · exact succeeds
      · exact .of_running (withinBounds_failInit p (owes rfl))
  | commit => exact .of_running (.of_exiting rfl)
  | markReady | clockFast | powerOff | markFailed => exact .of_running ⟨rfl, .inl (owes rfl)⟩
  | reportStatus => exact .of_idle rfl
  | issue | response | readyPoll | tokenPoll | token | dataResponse => exact trivial

/-! ### The moves at which something stands on the wire -/

theorem sendCommand_bounded (h : p.seq.WithinBounds) (hm : p.seq.micro = .issue) :
    EndsBounded (p.sendCommand p.app p.idx p.arg) := by
  have carries : p.seq.Owes ∨ p.seq.Stopped := h.owes_or_stopped (by rw [hm]; rfl)
  unfold State.sendCommand State.startCommand
  split
  · split <;> exact .of_running (.of_command carries rfl)
  · exact trivial

theorem sendToken_bounded {k : TxToken} (h : p.seq.WithinBounds) (hm : p.seq.micro = .token k) :
    EndsBounded (p.sendToken k) := by
  have hw : p.seq.op.isWrite = true := Micro.isWrite_of_fits h.place (by rw [hm]; rfl)
  unfold State.sendToken
  split
  · cases k with
    | stopTran => exact .of_running (withinBounds_blockOutReturn _ .stopTran true fun hk => absurd rfl hk)
    | startBlock | multiWrite => exact .of_running ⟨hw, .inl (h.owes (by rw [hm]; rfl))⟩
  · exact trivial

theorem response_bounded {pfx : Bool} (b : Byte) (h : p.seq.WithinBounds) (hm : p.seq.micro = .response pfx) :
    EndsBounded (takeUp (.response b) p) := by
  have returns : EndsBounded (.next ((p.pollExchange b).commandReturn pfx b)) :=
    .of_running (withinBounds_commandReturn (p.pollExchange b) pfx b (h.owes_or_stopped (by rw [hm]; rfl)))
  rw [takeUp_response]
  split
  · simp only [State.takeResponse, hm]
    split
    · exact returns
    · exact trivial
  · simp only [State.missResponse, hm]
    split
    · exact returns
    · exact .of_running h

theorem startToken_bounded (b : Byte) (h : p.seq.WithinBounds) (hm : p.seq.micro = .tokenPoll) :
    EndsBounded (takeUp (.startToken b) p) := by
  have ho : p.seq.Owes := h.owes (by rw [hm]; rfl)
  rw [takeUp_startToken]
  split
  · unfold State.takeStartToken
    split
    · exact .of_running ⟨decide_eq_true (HostOp.blockLen_pos _), .inl ho⟩
    · exact trivial
  · unfold State.missStartToken
    split
    · exact .of_running ⟨rfl, .inl ho⟩
    · exact .of_running (withinBounds_blockInReturn _ false ho)

theorem readyByte_bounded {c : ReadyCaller} (b : Byte) (h : p.seq.WithinBounds) (hm : p.seq.micro = .readyPoll c) :
    EndsBounded (takeUp (.readyByte b) p) := by
  have hw : p.seq.Waits c := (Seq.withinBounds_iff_waits (.inr (.inl hm))).mp h
  rw [takeUp_readyByte]
  split
  · simp only [State.takeReady, hm]
    split
    · exact .of_running (withinBounds_readyReturn (p.exchange _ _) c true hw)
    · exact trivial
  · simp only [State.missReady, hm]
    exact .of_running ((Seq.withinBounds_iff_waits (.inr (.inr rfl))).mpr hw)

theorem dataResponse_bounded {k : TxToken} (b : Byte) (h : p.seq.WithinBounds)
    (hm : p.seq.micro = .dataResponse k) : EndsBounded (takeUp (.dataResponse b) p) := by
  have returns (sent : Bool) : EndsBounded (.next ((p.exchange Config.fill b).blockOutReturn k sent)) :=
    .of_running (withinBounds_blockOutReturn _ k sent fun _ => h.owes (by rw [hm]; rfl))
  rw [takeUp_dataResponse]
  split
  · simp only [State.takeDataResponse, hm]
    split
    · exact returns true
    · exact trivial
  · simp only [State.missDataResponse, hm]
    exact returns false

theorem takeUp_wire_bounded {sig : Signal} (h : p.seq.WithinBounds) (hw : p.wireSignal = some sig) :
    EndsBounded (takeUp sig p) := by
  unfold State.wireSignal at hw
  split at hw
  · split at hw <;> cases hw
    next hm =>
      rcases takeUp_frame p.app p.idx p.arg p with hf | hf <;> rw [hf]
      · exact sendCommand_bounded h hm
      · exact trivial
    next hm => rw [takeUp_sentToken]; exact sendToken_bounded h hm
    next hm => exact response_bounded _ h hm
    next hm => exact startToken_bounded _ h hm
    next hm => exact readyByte_bounded _ h hm
    next hm => exact dataResponse_bounded _ h hm
  · cases hw

/-! ### A host request -/

theorem whenIdle_bounded {body : Result} (hbody : p.seq.busy = false → EndsBounded body) :
    EndsBounded (p.whenIdle body) := by
  unfold State.whenIdle
  split
  · exact trivial
  next hb => exact hbody (by simpa using hb)

theorem ioctlGate_bounded {pdrv : Byte} {body : Result} (hbody : EndsBounded body) :
    EndsBounded (p.ioctlGate pdrv body) := by
  refine whenIdle_bounded fun hi => ?_
  split
  · exact .of_idle hi
  · split
    · exact .of_idle hi
    · exact hbody

/-- Past the gates the count is in the contract (R175). -/
theorem count_of_gates {pdrv count : Byte} (hp : ¬badParameters pdrv count = true) (hc : ¬countOutside count = true) :
    1 ≤ count.toNat ∧ count.toNat ≤ Config.countMax := by
  simp only [badParameters, Bool.or_eq_true, bne_iff_ne, beq_iff_eq, not_or] at hp
  simp only [countOutside, decide_eq_true_eq, Nat.not_lt] at hc
  have : count.toNat ≠ 0 := fun h0 => hp.2 (BitVec.eq_of_toNat_eq h0)
  omega

theorem owes_startTransfer (op : HostOp) (sector : Sector) {count : Byte}
    (hc : 1 ≤ count.toNat ∧ count.toNat ≤ Config.countMax) : (p.startTransfer op sector count).seq.Owes :=
  ⟨fun _ => nofun, fun _ => ⟨hc.1, by simpa using hc.2⟩⟩

theorem execRead_bounded (pdrv : Byte) (sector : Sector) (count : Byte) :
    EndsBounded (execRead pdrv sector count p) := by
  refine whenIdle_bounded fun hi => ?_
  split_ifs with hp _ hc
  · exact .of_idle hi
  · exact .of_idle hi
  · exact trivial
  all_goals exact .of_running (withinBounds_call _ _ _ _ (owes_startTransfer _ sector (count_of_gates hp hc)) nofun)

theorem execWrite_bounded (pdrv : Byte) (sector : Sector) (count : Byte) :
    EndsBounded (execWrite pdrv sector count p) := by
  refine whenIdle_bounded fun hi => ?_
  split_ifs with hp _ _ hc
  · exact .of_idle hi
  · exact .of_idle hi
  · exact .of_idle hi
  · exact trivial
  · have ho := owes_startTransfer (p := p) (.write pdrv sector count p.requestBuffer) sector (count_of_gates hp hc)
    unfold State.startWrite
    split_ifs <;> exact .of_running (withinBounds_call _ _ _ _ ho nofun)

theorem startQuery_bounded (pdrv code : Byte) (app : Bool) (idx : Index) :
    EndsBounded (.next (p.startQuery pdrv code app idx)) :=
  .of_running (withinBounds_call _ _ _ _ (Seq.owes_of_not_transfer rfl) nofun)

theorem exec_decodeIoctl_bounded (pdrv code : Byte) : EndsBounded (exec (decodeIoctl pdrv code) p) := by
  unfold decodeIoctl
  split_ifs <;> refine ioctlGate_bounded ?_
  · exact .of_running ⟨rfl, .inl (Seq.owes_of_not_transfer rfl)⟩
  · exact startQuery_bounded _ _ _ _
  · split <;> exact startQuery_bounded _ _ _ _
  · exact .of_running (.of_exiting rfl)
  · exact startQuery_bounded _ _ _ _
  · exact startQuery_bounded _ _ _ _
  · exact startQuery_bounded _ _ _ _
  · split
    · exact startQuery_bounded _ _ _ _
    · exact .of_running (.of_exiting rfl)
  · exact .of_running (.of_exiting rfl)

theorem takeUp_request_bounded (w : RequestWord) : EndsBounded (takeUp (.request w) p) := by
  unfold takeUp
  split
  next i hd =>
    simp only [decode, decodeRequest] at hd
    split_ifs at hd <;> cases hd
    · exact whenIdle_bounded fun hi => .of_idle hi
    · refine whenIdle_bounded fun hi => ?_
      split
      · exact .of_idle hi
      · exact .of_running ⟨rfl, .inl (Seq.owes_of_not_transfer rfl)⟩
    · exact execRead_bounded _ _ _
    · exact execWrite_bounded _ _ _
    · exact exec_decodeIoctl_bounded _ _
  · exact trivial

end Move

/-! ### The step -/

section Step

variable {s t : State}

theorem TransferBounded.of_seq_eq (hs : TransferBounded s) (h : t.seq = s.seq) : TransferBounded t :=
  .of_withinBounds fun hb => h ▸ hs.withinBounds (h ▸ hb)

theorem step_foreground_bounded (hs : TransferBounded s) (he : s.nextEvent = .foreground) : EndsBounded (step s) := by
  cases hb : s.seq.busy with
  | false => rw [step_foreground_idle he hb]; exact .of_idle (by simpa using hb)
  | true =>
    have h : s.popEvent.seq.WithinBounds := by simpa using hs.withinBounds hb
    cases hw : s.popEvent.wireSignal with
    | some sig => rw [step_foreground_wire he hw]; exact takeUp_wire_bounded h hw
    | none => rw [step_foreground_primitive he hb hw]; exact primitive_bounded h

theorem hostWrites_bounded {buffer offset : Nat} {b : Byte} (hlt : offset < Config.bufferSize) :
    EndsBounded (s.hostWrites buffer offset b) := by
  unfold State.hostWrites
  split
  · exact trivial
  next hb =>
    exact .of_idle (by simpa using hb)

theorem step_bounded (hs : TransferBounded s)
    (hw : ∀ h a b, s.nextEvent = .hostWrite h a b → a < Config.bufferSize) :
    EndsBounded (step s) := by
  cases he : s.nextEvent with
  | foreground => exact step_foreground_bounded hs he
  | tick => rw [step_tick he]; exact hs.of_seq_eq (by simp)
  | lines cd wp => rw [step_lines he]; exact hs.of_seq_eq (by simp)
  | request buffer w => rw [step_request he]; exact takeUp_request_bounded w
  | hostWrite buffer offset b => rw [step_hostWrite he]; exact hostWrites_bounded (hw buffer offset b he)
  | reset => rw [step_reset he]; exact .of_idle rfl

/-- A host write that ends in a next state was inside its buffer. -/
theorem step_hostWrite_lt {buffer offset : Nat} {b : Byte} (he : s.nextEvent = .hostWrite buffer offset b)
    (h : step s = .next t) : offset < Config.bufferSize := by
  rw [step_hostWrite he] at h
  unfold State.hostWrites at h
  split_ifs at h with _ hlt
  exact hlt

/-- Settles O59: a move keeps the account of the transfer, and the account keeps its accesses inside the buffer. -/
theorem stepKeepsTransferBounded : Obligations.StepKeepsTransferBounded := by
  refine fun s hs => ⟨fun t h => ?_, fun hw f hf => ?_⟩
  · have ends := step_bounded hs fun _ _ _ he => step_hostWrite_lt he h
    rwa [h] at ends
  · have ends := step_bounded hs hw
    rwa [hf] at ends

end Step

end Sys2Proof.Machine
end

section
/-! PROOFS. O39: who writes the host buffers, and which byte. -/

namespace Sys2Proof.Machine

variable {s t : State}

theorem taken_requestBuffer {buffer : Nat} {w : RequestWord} (he : s.nextEvent = .request buffer w) :
    s.taken.requestBuffer = buffer := by
  rw [taken_request he]

/-- A request that writes a buffer is `GET_TYPE` of drive 0 (R195). -/
theorem step_request_buffers {buffer : Nat} {w : RequestWord} (he : s.nextEvent = .request buffer w)
    (h : step s = .next t) :
    t.buffers = s.buffers ∨ decode (.request w) = .ok (.ioctlGetType 0#8) ∧
      t.buffers = Memory.write s.buffers (bufferCell buffer 0) s.ct := by
  obtain ⟨i, hd, hi⟩ := step_request_effect he h
  cases hi with
  | control _ h | powerOn h => exact .inl (by simpa using h.buffers)
  | storeType h => exact .inr ⟨hd, by simpa [taken_requestBuffer he] using h.buffers⟩

/-- Settles O39: of the effects of a step, four write a buffer. -/
theorem bufferWriters : Obligations.BufferWriters := by
  intro s t h hne
  cases step_cases h with
  | busStore i offset he hb hm hplace hlt h =>
    exact .inl ⟨he, .inl ⟨i, offset, ⟨hb, hm⟩, hplace, hlt, by simpa using h.buffers⟩⟩
  | busScrStore i he hb hm hop hlt h =>
    obtain ⟨pdrv, code, hop⟩ := hop
    exact .inl ⟨he, .inr ⟨i, pdrv, code, _, ⟨hb, hm⟩, hop, hlt, by simpa using h.buffers⟩⟩
  | storeType buffer w he idle =>
    obtain ⟨hd, hbuf⟩ := (step_request_buffers he h).resolve_left hne
    exact .inr (.inl ⟨buffer, w, he, idle, hd, hbuf⟩)
  | hostWrite buffer offset b he idle hlt h =>
    subst h
    exact .inr (.inr ⟨buffer, offset, b, he, idle, hlt, by simp⟩)
  | tick _ h => cases h; exact absurd (State.taken_buffers s) hne
  | reset _ h | lines _ _ _ h => subst h; exact absurd (State.taken_buffers s) hne
  | control h | bus _ _ _ _ h | busScr _ _ _ _ _ h | chipSelect _ _ _ h | clock _ _ _ _ h | powerOn _ _ _ _ h
  | powerOff _ _ _ h | arm1 _ _ _ _ h | arm2 _ _ _ h | markStatus _ _ _ _ h | commit _ _ _ h =>
    exact absurd (by simpa using h.buffers) hne

end Sys2Proof.Machine
end

section
/-! PROOFS. Bytes written to consecutive cells of the host buffers. -/

namespace Sys2Proof.Machine

theorem bufferCell_add (h base k : Nat) : bufferCell h (base + k) = bufferCell h base + k :=
  (Nat.add_assoc _ _ _).symm

/-- Bytes written to consecutive cells, in rising order. -/
def Memory.writeBytes : List Host.Cell → Nat → List Byte → List Host.Cell
  | m, _, [] => m
  | m, a, b :: bytes => Memory.writeBytes (Memory.write m a b) (a + 1) bytes

namespace Memory

theorem read_writeBytes_outside {m : List Host.Cell} (w : wf m = true) {a c : Nat} {bytes : List Byte}
    (hc : c < a ∨ a + bytes.length ≤ c) : read (writeBytes m a bytes) c = read m c := by
  induction bytes generalizing m a with
  | nil => rfl
  | cons b bytes ih =>
    rw [List.length_cons] at hc
    rw [writeBytes, ih (wf_write a b w) (by omega)]
    exact read_write_other w b (by omega)

theorem read_writeBytes_inside {m : List Host.Cell} (w : wf m = true) {a k : Nat} {bytes : List Byte}
    (hk : k < bytes.length) : read (writeBytes m a bytes) (a + k) = bytes.getD k 0#8 := by
  induction bytes generalizing m a k with
  | nil => cases hk
  | cons b bytes ih =>
    rw [writeBytes]
    cases k with
    | zero =>
      rw [read_writeBytes_outside (wf_write a b w) (.inl (by omega))]
      exact read_write_same w a b
    | succ k =>
      rw [← Nat.add_assoc, Nat.add_right_comm]
      exact ih (wf_write a b w) (Nat.lt_of_succ_lt_succ hk)

end Memory

end Sys2Proof.Machine
end

section
/-! PROOFS. Scripted runs: the foreground moves alone, and the card answers from a script. -/

namespace Sys2Proof.Machine

variable {s : State} {k : Nat}

/-- The next `k` moves are the foreground's, and the card answers the next exchanges with these bytes. -/
def State.scripted (k : Nat) (bytes : List Byte) (s : State) : State := (s.letAnswer bytes).letForeground k

theorem scripted_zero_nil : s.scripted 0 [] = s := rfl

/-- A scripted step at a place where nothing stands on the wire. -/
theorem step_scripted_primitive (bytes : List Byte) (hb : s.seq.busy = true)
    (hw : (s.scripted k bytes).wireSignal = none) :
    step (s.scripted (k + 1) bytes) = (s.scripted k bytes).primitive :=
  step_foreground_primitive rfl hb hw

/-- A scripted step at a place where something stands on the wire. -/
theorem step_scripted_wire {sig : Signal} (bytes : List Byte) (hw : (s.scripted k bytes).wireSignal = some sig) :
    step (s.scripted (k + 1) bytes) = takeUp sig (s.scripted k bytes) :=
  step_foreground_wire rfl hw

/-- The fill byte was sent once for each of these replies of the card. -/
def State.heard (bytes : List Byte) (s : State) : State :=
  { s with
    exchanges := s.exchanges + bytes.length
    trace := (bytes.map (.exchange Config.fill)).reverse ++ s.trace }

theorem exchangesOf_replicate (tx : Byte) (bytes : List Byte) :
    exchangesOf (List.replicate bytes.length tx) bytes = (bytes.map (.exchange tx)).reverse := by
  unfold exchangesOf
  congr 1
  induction bytes with
  | nil => rfl
  | cons b bytes ih => simp [List.replicate_succ, ih]

theorem heard_heard (first next : List Byte) : (s.heard first).heard next = s.heard (first ++ next) := by
  simp [State.heard, Nat.add_assoc]

theorem heard_goto (m : Micro) (bytes : List Byte) : (s.goto m).heard bytes = (s.heard bytes).goto m := rfl

/-- An exchange of the fill byte uses up the head of the script. -/
theorem send_scripted (b : Byte) (bytes : List Byte) :
    (s.scripted k (b :: bytes)).send Config.fill = (s.heard [b]).scripted k bytes := rfl

end Sys2Proof.Machine
end

section
/-! PROOFS. O26: the payload of a block arrives byte for byte in the host buffer. -/

namespace Sys2Proof.Machine

/-! ### The exchanges of `RECVBLOCK` -/

variable {s : State} {k : Nat}

/-- A payload byte arrived, and was put in the operation's host buffer. -/
def State.receivedByte (offset : Nat) (b : Byte) (s : State) : State :=
  (s.heard [b]).store s.seq.op.buffer offset b

/-- Payload bytes arrived, and were put in consecutive cells of the host buffers. -/
def State.received (cell : Nat) (bytes : List Byte) (s : State) : State :=
  { s.heard bytes with buffers := Memory.writeBytes s.buffers cell bytes }

theorem received_goto (m : Micro) (cell : Nat) (bytes : List Byte) :
    (s.goto m).received cell bytes = (s.received cell bytes).goto m := rfl

theorem received_cons (offset : Nat) (b : Byte) (bytes : List Byte) :
    (s.receivedByte offset b).received (bufferCell s.seq.op.buffer (offset + 1)) bytes =
      s.received (bufferCell s.seq.op.buffer offset) (b :: bytes) := by
  simp [State.receivedByte, bufferCell, State.store, State.received, State.heard, Memory.writeBytes, Nat.add_assoc,
    Nat.add_comm 1]

theorem wireSignal_payloadIn {i : Nat} (hm : s.seq.micro = .payloadIn i) : s.wireSignal = none := by
  simp [State.wireSignal, hm]

theorem primitive_payloadIn {i : Nat} (hm : s.seq.micro = .payloadIn i) : s.primitive = s.payloadInStep i := by
  simp only [State.primitive, hm]

theorem payloadInStep_of_offset {i offset : Nat} (hplace : s.seq.op.payloadOffset s.seq.moved i = some offset)
    (hlt : offset < Config.bufferSize) :
    s.payloadInStep i =
      .next (((s.send Config.fill).store s.seq.op.buffer offset s.reply).afterPayloadIn i) := by
  simp only [State.payloadInStep, hplace, if_pos hlt]

theorem afterPayloadIn_of_lt {i : Nat} (h : i + 1 < s.seq.op.blockLen) :
    s.afterPayloadIn i = s.goto (.payloadIn (i + 1)) :=
  if_pos h

theorem afterPayloadIn_last {i : Nat} (h : i + 1 = s.seq.op.blockLen) :
    s.afterPayloadIn i = s.goto (.crcIn Config.crcLen) :=
  if_neg (by omega)

theorem afterPayloadIn_scripted (s : State) (i : Nat) (bytes : List Byte) :
    (s.scripted k bytes).afterPayloadIn i = (s.afterPayloadIn i).scripted k bytes := by
  unfold State.afterPayloadIn
  rw [apply_ite (State.scripted k bytes)]
  rfl

theorem takeStartToken_of_standsAt (hs : s.standsAt .tokenPoll) :
    s.takeStartToken = .next ((s.exchange Config.fill Config.tokenRxStart).goto (.payloadIn 0)) := by
  obtain ⟨hb, hm⟩ := hs
  unfold State.takeStartToken
  rw [if_pos (by rw [hb, hm]; rfl)]

theorem step_tokenPoll_scripted (hs : s.standsAt .tokenPoll) (bytes : List Byte) :
    step (s.scripted (k + 1) (Config.tokenRxStart :: bytes)) =
      .next (((s.heard [Config.tokenRxStart]).goto (.payloadIn 0)).scripted k bytes) := by
  obtain ⟨hb, hm⟩ := hs
  calc step (s.scripted (k + 1) (Config.tokenRxStart :: bytes))
    _ = takeUp (.startToken Config.tokenRxStart) (s.scripted k (Config.tokenRxStart :: bytes)) :=
      step_scripted_wire _ (wireSignal_tokenPoll hb hm)
    _ = (s.scripted k (Config.tokenRxStart :: bytes)).takeStartToken := takeUp_startToken _ _
    _ = _ := takeStartToken_of_standsAt ⟨hb, hm⟩

theorem step_payloadIn_scripted {i offset : Nat} (hs : s.standsAt (.payloadIn i))
    (hplace : s.seq.op.payloadOffset s.seq.moved i = some offset) (hlt : offset < Config.bufferSize) (b : Byte)
    (bytes : List Byte) :
    step (s.scripted (k + 1) (b :: bytes)) =
      .next (((s.receivedByte offset b).afterPayloadIn i).scripted k bytes) := by
  obtain ⟨hb, hm⟩ := hs
  calc step (s.scripted (k + 1) (b :: bytes))
    _ = (s.scripted k (b :: bytes)).primitive := step_scripted_primitive _ hb (wireSignal_payloadIn hm)
    _ = (s.scripted k (b :: bytes)).payloadInStep i := primitive_payloadIn hm
    _ = .next ((((s.scripted k (b :: bytes)).send Config.fill).store s.seq.op.buffer offset b).afterPayloadIn i) :=
      payloadInStep_of_offset (s := s.scripted k (b :: bytes)) hplace hlt
    _ = _ := congrArg _ (afterPayloadIn_scripted (s.receivedByte offset b) i bytes)

/-- The payload, from byte `i` on: it ends before the two CRC bytes. -/
theorem runFor_payloadIn (base : Nat) (rest payload : List Byte) (hne : payload ≠ []) {i : Nat}
    (hs : s.standsAt (.payloadIn i)) (hlen : i + payload.length = s.seq.op.blockLen)
    (hplace : ∀ j, s.seq.op.payloadOffset s.seq.moved j = some (base + j))
    (hlt : base + s.seq.op.blockLen ≤ Config.bufferSize) :
    runFor (payload.length + k) (s.scripted (payload.length + k) (payload ++ rest)) =
      runFor k (((s.received (bufferCell s.seq.op.buffer (base + i)) payload).goto
        (.crcIn Config.crcLen)).scripted k rest) := by
  induction payload generalizing s i with
  | nil => exact absurd rfl hne
  | cons b payload ih =>
    rw [List.length_cons] at hlen
    have first := step_payloadIn_scripted (k := payload.length + k) hs (hplace i) (by omega) b (payload ++ rest)
    rw [List.length_cons, Nat.succ_add, List.cons_append, runFor_succ_of_next first]
    cases payload with
    | nil =>
      rw [afterPayloadIn_last (s := s.receivedByte _ _) hlen, List.length_nil, Nat.zero_add, List.nil_append]
      rfl
    | cons c payload =>
      have more : i + 1 < s.seq.op.blockLen := by rw [← hlen, List.length_cons]; omega
      rw [afterPayloadIn_of_lt (s := s.receivedByte _ _) more,
        ih (s := (s.receivedByte (base + i) b).goto (.payloadIn (i + 1))) nofun ⟨hs.1, rfl⟩
          (by rw [Nat.add_assoc, Nat.add_comm 1]; exact hlen) hplace hlt, received_goto,
        State.goto_goto]
      exact congrArg (fun u => runFor k ((State.goto (.crcIn Config.crcLen) u).scripted k rest))
        (received_cons (base + i) b (c :: payload))

theorem wireSignal_crcIn {left : Nat} (hm : s.seq.micro = .crcIn left) : s.wireSignal = none := by
  simp [State.wireSignal, hm]

theorem primitive_crcIn_of_lt {left : Nat} (hm : s.seq.micro = .crcIn left) (h : 1 < left) :
    s.primitive = .next ((s.send Config.fill).goto (.crcIn (left - 1))) := by
  simp only [State.primitive, hm, if_neg (Nat.not_le.mpr h)]

theorem primitive_crcIn_last (hm : s.seq.micro = .crcIn 1) :
    s.primitive = .next ((s.send Config.fill).blockInReturn true) := by
  simp only [State.primitive, hm, if_pos (Nat.le_refl 1)]

theorem step_crcIn_scripted {left : Nat} (hs : s.standsAt (.crcIn left)) (h : 1 < left) (b : Byte)
    (bytes : List Byte) :
    step (s.scripted (k + 1) (b :: bytes)) = .next (((s.heard [b]).goto (.crcIn (left - 1))).scripted k bytes) := by
  obtain ⟨hb, hm⟩ := hs
  calc step (s.scripted (k + 1) (b :: bytes))
    _ = (s.scripted k (b :: bytes)).primitive := step_scripted_primitive _ hb (wireSignal_crcIn hm)
    _ = _ := primitive_crcIn_of_lt (s := s.scripted k (b :: bytes)) hm h

theorem step_crcIn_last (hs : s.standsAt (.crcIn 1)) (b : Byte) :
    step (s.scripted 1 [b]) = .next ((s.heard [b]).blockInReturn true) := by
  obtain ⟨hb, hm⟩ := hs
  calc step (s.scripted 1 [b])
    _ = (s.scripted 0 [b]).primitive := step_scripted_primitive _ hb (wireSignal_crcIn hm)
    _ = .next (((s.scripted 0 [b]).send Config.fill).blockInReturn true) := primitive_crcIn_last hm
    _ = _ := by rw [send_scripted, scripted_zero_nil]

/-- The two CRC bytes are dropped (R140). -/
theorem runFor_crcIn (hs : s.standsAt (.crcIn Config.crcLen)) (c0 c1 : Byte) :
    runFor 2 (s.scripted 2 [c0, c1]) = .next (((s.heard [c0, c1]).goto (.crcIn 1)).blockInReturn true) := by
  rw [runFor_succ_of_next (step_crcIn_scripted (k := 1) hs (by decide) c0 [c1]),
    runFor_succ_of_next (step_crcIn_last (s := (s.heard [c0]).goto (.crcIn (Config.crcLen - 1))) ⟨hs.1, rfl⟩ c1),
    heard_goto, heard_heard]
  rfl

/-- A whole block arrived: its token, its payload and two CRC bytes. -/
def State.receivedBlock (cell : Nat) (payload : List Byte) (c0 c1 : Byte) (s : State) : State :=
  { s.heard (Config.tokenRxStart :: (payload ++ [c0, c1])) with
    buffers := Memory.writeBytes s.buffers cell payload }

theorem heard_received_heard (cell : Nat) (payload : List Byte) (c0 c1 : Byte) :
    ((s.heard [Config.tokenRxStart]).received cell payload).heard [c0, c1] = s.receivedBlock cell payload c0 c1 := by
  simp [State.receivedBlock, State.received, State.heard, Nat.add_assoc, Nat.add_comm 1]

theorem receivedBlock_eq (cell : Nat) (payload : List Byte) (c0 c1 : Byte) :
    s.receivedBlock cell payload c0 c1 =
      { s with
        buffers := Memory.writeBytes s.buffers cell payload, exchanges := s.exchanges + (payload.length + 3)
        trace :=
          exchangesOf (List.replicate (payload.length + 3) 0xFF#8) (0xFE#8 :: payload ++ [c0, c1]) ++ s.trace } := by
  have trace := exchangesOf_replicate Config.fill (Config.tokenRxStart :: (payload ++ [c0, c1]))
  have length : (Config.tokenRxStart :: (payload ++ [c0, c1])).length = payload.length + 3 := by simp
  rw [length] at trace
  unfold State.receivedBlock State.heard
  rw [← trace, length]
  rfl

/-- What `RECVBLOCK` needs to put its payload of `len` bytes at `base` in buffer `h`. -/
structure HostOp.ReceivesAt (op : HostOp) (moved h base len : Nat) : Prop where
  blockLen : op.blockLen = len
  buffer : op.buffer = h
  place : ∀ i, op.payloadOffset moved i = some (base + i)
  bound : base + len ≤ Config.bufferSize
  pos : 0 < len

/-- `RECVBLOCK` from the accepted token on, up to what its caller does with the block (R140, R142). -/
theorem runFor_block {h base : Nat} {payload : List Byte} (hs : s.standsAt .tokenPoll)
    (hop : s.seq.op.ReceivesAt s.seq.moved h base payload.length) (c0 c1 : Byte) :
    runFor (payload.length + 3) (s.scripted (payload.length + 3) (Config.tokenRxStart :: (payload ++ [c0, c1]))) =
      .next (((s.receivedBlock (bufferCell h base) payload c0 c1).goto (.crcIn 1)).blockInReturn true) := by
  obtain ⟨hlen, rfl, hplace, hlt, hpos⟩ := hop
  rw [runFor_succ_of_next (step_tokenPoll_scripted (k := payload.length + 2) hs _),
    runFor_payloadIn (s := (s.heard [Config.tokenRxStart]).goto (.payloadIn 0)) base [c0, c1] payload
      (List.ne_nil_of_length_pos hpos) ⟨hs.1, rfl⟩ (by rw [Nat.zero_add]; exact hlen.symm) hplace
      (by rw [← hlen] at hlt; exact hlt),
    received_goto, State.goto_goto, ← heard_received_heard]
  exact runFor_crcIn (s := ((s.heard [Config.tokenRxStart]).received (bufferCell s.seq.op.buffer base) payload).goto
    (.crcIn Config.crcLen)) ⟨hs.1, rfl⟩ c0 c1

/-! ### What the caller does with the block -/

section Caller

variable {p count code : Byte} {sector : Sector} {h : Nat}

theorem blockInReturn_read (hop : s.seq.op = .read p sector count h) (received : Bool) :
    s.blockInReturn received = s.readBlock count received := by
  simp only [State.blockInReturn, hop]

theorem blockInReturn_read_single (hop : s.seq.op = .read p sector count h) (hc : count = 1#8) :
    s.blockInReturn true = (s.setOwed 0).close := by
  rw [blockInReturn_read hop, State.readBlock, if_pos hc, if_pos rfl]

theorem blockInReturn_read_more (hop : s.seq.op = .read p sector count h) (hc : count ≠ 1#8)
    (howed : 2 ≤ s.seq.owed) :
    s.blockInReturn true = s.countBlock.goto .tokenArm := by
  rw [blockInReturn_read hop, State.readBlock, if_neg hc, if_pos rfl, if_neg (by omega)]

theorem blockInReturn_read_last (hop : s.seq.op = .read p sector count h) (hc : count ≠ 1#8)
    (howed : s.seq.owed ≤ 1) :
    s.blockInReturn true = ({ s.countBlock with n := 0#8 } : State).stopRead := by
  have hnone : s.seq.owed - 1 = 0 := by omega
  rw [blockInReturn_read hop, State.readBlock, if_neg hc, if_pos rfl, if_pos hnone, State.countBlock, hnone]

/-- A query that puts its block in the host buffer closes with `Ok`. -/
theorem blockInReturn_ioctl {moved i offset : Nat} (hop : s.seq.op = .ioctl p code h)
    (hplace : s.seq.op.payloadOffset moved i = some offset) : s.blockInReturn true = s.closeWith .ok := by
  simp only [hop, HostOp.payloadOffset] at hplace
  split at hplace
  · cases hplace
  next hc =>
    obtain ⟨hcount, hsize⟩ := not_or.mp hc
    simp only [State.blockInReturn, hop, State.queryBlock, if_true, if_neg hcount, if_neg hsize]

end Caller

theorem receivesAt_read {op : HostOp} {moved h : Nat} (hop : ∃ p sector count, op = .read p sector count h)
    (hm : moved < 128) : op.ReceivesAt moved h (512 * moved) 512 := by
  obtain ⟨p, sector, count, rfl⟩ := hop
  exact ⟨rfl, rfl, fun _ => rfl, by simp only [Config.bufferSize]; omega, by decide⟩

theorem receivesAt_register {op : HostOp} {h : Nat} (moved : Nat)
    (hop : ∃ p code, op = .ioctl p code h ∧ (code = 4#8 ∨ code = 5#8)) : op.ReceivesAt moved h 0 16 := by
  obtain ⟨p, code, rfl, rfl | rfl⟩ := hop <;>
    exact ⟨rfl, rfl, fun _ => congrArg some (Nat.zero_add _).symm, by decide, by decide⟩

theorem receivesAt_sdStatus {op : HostOp} {h : Nat} (moved : Nat) (hop : ∃ p, op = .ioctl p 7#8 h) :
    op.ReceivesAt moved h 0 64 := by
  obtain ⟨p, rfl⟩ := hop
  exact ⟨rfl, rfl, fun _ => congrArg some (Nat.zero_add _).symm, by decide, by decide⟩

/-- Settles O26: the run of `RECVBLOCK`, then its caller's branch. -/
theorem blockReceived : Obligations.BlockReceived := by
  intro s h base len payload c0 c1 hs hwf hcaller hlen
  have hop : s.seq.op.ReceivesAt s.seq.moved h base len := by
    rcases hcaller with ⟨hop, hm, rfl, rfl⟩ | ⟨hop, rfl, rfl⟩ | ⟨hop, rfl, rfl⟩
    · exact receivesAt_read hop hm
    · exact receivesAt_register _ hop
    · exact receivesAt_sdStatus _ hop
  subst hlen
  refine ⟨Memory.writeBytes s.buffers (bufferCell h base) payload, fun k hk => ?_, fun c hc => ?_, ?_⟩
  · exact bufferCell_add h base k ▸ Memory.read_writeBytes_inside hwf hk
  · exact Memory.read_writeBytes_outside hwf (bufferCell_add h base payload.length ▸ hc)
  intro run t counted
  have received : s.receivedBlock (bufferCell h base) payload c0 c1 = t := receivedBlock_eq _ _ _ _
  have hrun : run = .next ((t.goto (.crcIn 1)).blockInReturn true) := received ▸ runFor_block hs hop c0 c1
  rw [hrun]
  refine ⟨fun p sector count hread hc => ?_, fun p sector count hread hc howed => ?_,
    fun p sector count hread hc howed => ?_, fun p code hioctl => ?_⟩
  · exact congrArg Host.Outcome.next (blockInReturn_read_single (s := t.goto (.crcIn 1)) hread hc)
  · exact congrArg Host.Outcome.next (blockInReturn_read_more (s := t.goto (.crcIn 1)) hread hc howed)
  · exact congrArg Host.Outcome.next (blockInReturn_read_last (s := t.goto (.crcIn 1)) hread hc howed)
  · exact congrArg Host.Outcome.next (blockInReturn_ioctl (s := t.goto (.crcIn 1)) hioctl (hop.place 0))

end Sys2Proof.Machine
end

section
/-! PROOFS. O14, O40: the bytes of a command frame, and words written out from the tables. -/

namespace Sys2Proof

/-- The last byte of a frame is its CRC byte, the 40 bits above it the start bits, the index and the argument. -/
theorem extract_frameOf_above (idx : Index) (arg : Argument) {start len : Nat} (h : 8 ≤ start) :
    (frameOf idx arg).extractLsb' start len = (0b01#2 ++ idx ++ arg).extractLsb' (start - 8) len :=
  BitVec.extractLsb'_append_eq_of_le h

/-- Byte `k + 1` from the right of a frame is byte `k` of the argument. -/
theorem extract_frameOf_arg (idx : Index) (arg : Argument) {k : Nat} (h : k < 4) :
    (frameOf idx arg).extractLsb' (8 * k + 8) 8 = arg.extractLsb' (8 * k) 8 := by
  rw [extract_frameOf_above idx arg (Nat.le_add_left 8 _), Nat.add_sub_cancel]
  exact BitVec.extractLsb'_append_eq_of_add_le (by change _ ≤ 32; omega)

theorem start_append_index (idx : Index) : 0b01#2 ++ idx = 0x40#8 ||| idx.setWidth 8 := by
  revert idx
  decide

theorem extract_frameOf_index (idx : Index) (arg : Argument) :
    (frameOf idx arg).extractLsb' 40 8 = 0x40#8 ||| idx.setWidth 8 :=
  calc (frameOf idx arg).extractLsb' 40 8
    _ = (0b01#2 ++ idx ++ arg).extractLsb' 32 8 := extract_frameOf_above idx arg (by decide)
    _ = 0b01#2 ++ idx := BitVec.extractLsb'_append_eq_left
    _ = 0x40#8 ||| idx.setWidth 8 := start_append_index idx

/-- Settles O14: the bytes are the fields of the concatenation. -/
theorem frameLayout : Obligations.FrameLayout := fun idx arg =>
  ⟨extract_frameOf_index idx arg, extract_frameOf_arg idx arg (k := 3) (by decide),
    extract_frameOf_arg idx arg (k := 2) (by decide), extract_frameOf_arg idx arg (k := 1) (by decide),
    extract_frameOf_arg idx arg (k := 0) (by decide), frameCrc_frameOf idx arg⟩

/-- Settles O40, by running the decoder on each word. -/
theorem decodeWords : Obligations.DecodeWords :=
  ⟨rfl, rfl, rfl, rfl, rfl, rfl, rfl, rfl, rfl, rfl, rfl, rfl, rfl⟩

end Sys2Proof
end

section
/-! PROOFS. O41, O42, O43: the decoder and the encoder, port by port. -/

namespace Sys2Proof

/-! ### Command frames -/

/-- A frame of the block's own making is decoded by its index and argument. -/
@[simp] theorem decode_frameOf (app : Bool) (idx : Index) (arg : Argument) :
    decode (.frame app (frameOf idx arg)) = decodeCommand app idx arg := by
  simp [decode, decodeFrame]

theorem decodeCommand_acmd23 {count : Argument} (h : count.toNat < 256) :
    decodeCommand true Config.idxSetWrBlockCount count = .ok (.acmd23 count) :=
  if_pos h

theorem decodeCommand_acmd41 {arg : Argument} (h : arg = Config.argHcs ∨ arg = 0#Config.argWidth) :
    decodeCommand true Config.idxAppSendOpCond arg = .ok (.acmd41 arg) :=
  if_pos h

theorem decodeCommand_of_index_not_mem {idx : Index} (app : Bool) (arg : Argument)
    (h : idx ∉ [0#6, 1#6, 8#6, 9#6, 10#6, 12#6, 13#6, 16#6, 17#6, 18#6, 23#6, 24#6, 25#6, 41#6, 55#6, 58#6]) :
    decodeCommand app idx arg = .error .commandIndex := by
  have ne := fun k hk => ne_of_mem_of_not_mem (a := k) hk h
  unfold decodeCommand
  cases app with
  | true =>
    rw [if_pos rfl]
    iterate 3 rw [if_neg (ne _ (by decide)).symm]
  | false =>
    rw [if_neg Bool.false_ne_true]
    iterate 13 rw [if_neg (ne _ (by decide)).symm]

/-! ### A decoder's answer and the word it read -/

/-- A decoder's answer to this signal is a rejection, or a well-formed instruction whose own word the signal is. -/
def Faithful (sig : Signal) (answer : Except Reject Instr) : Prop :=
  ∀ i, answer = .ok i → i.WellFormed = true ∧ encode i = sig

section Faithful

variable {sig : Signal} {i : Instr} {x y : Except Reject Instr}

theorem faithful_ok (hwf : i.WellFormed = true) (henc : encode i = sig) : Faithful sig (.ok i) := by
  rintro _ ⟨⟩
  exact ⟨hwf, henc⟩

theorem faithful_error (e : Reject) : Faithful sig (.error e) := nofun

theorem faithful_ite {c : Prop} [Decidable c] (hx : c → Faithful sig x) (hy : ¬c → Faithful sig y) :
    Faithful sig (if c then x else y) := by
  split
  next hc => exact hx hc
  next hc => exact hy hc

/-- The last test of a decoder: what fails it is no instruction. -/
theorem faithful_ite_error {c : Prop} [Decidable c] {e : Reject} (hx : c → Faithful sig x) :
    Faithful sig (if c then x else .error e) :=
  faithful_ite hx fun _ => faithful_error e

theorem faithful_withArg {app : Bool} {idx : Index} {want arg : Argument} (hwf : i.WellFormed = true)
    (henc : encode i = .frame app (frameOf idx want)) :
    Faithful (.frame app (frameOf idx arg)) (withArg want arg i) :=
  faithful_ite_error fun harg => faithful_ok hwf (harg ▸ henc)

end Faithful

theorem faithful_decodeCommand (app : Bool) (idx : Index) (arg : Argument) :
    Faithful (.frame app (frameOf idx arg)) (decodeCommand app idx arg) := by
  unfold decodeCommand
  cases app with
  | true =>
    rw [if_pos rfl]
    refine faithful_ite (fun hidx => ?_) fun _ => faithful_ite (fun hidx => ?_) fun _ =>
      faithful_ite_error fun hidx => ?_
    all_goals subst hidx
    · exact faithful_withArg rfl rfl
    · exact faithful_ite_error fun hcount => faithful_ok (decide_eq_true hcount) rfl
    · exact faithful_ite_error fun harg => faithful_ok (by simpa [Instr.WellFormed] using harg) rfl
  | false =>
    rw [if_neg Bool.false_ne_true]
    iterate 7 refine faithful_ite (fun hidx => hidx ▸ faithful_withArg rfl rfl) fun _ => ?_
    iterate 4 refine faithful_ite (fun hidx => hidx ▸ faithful_ok rfl rfl) fun _ => ?_
    iterate 2 refine faithful_ite (fun hidx => hidx ▸ faithful_withArg rfl rfl) fun _ => ?_
    exact faithful_error _

theorem faithful_decodeFrame (app : Bool) (w : FrameWord) : Faithful (.frame app w) (decodeFrame app w) := by
  refine faithful_ite_error fun hs => faithful_ite_error fun hc => ?_
  have command := faithful_decodeCommand app (frameIndex w) (frameArg w)
  rwa [frameOf_fields w hs hc] at command

theorem faithful_decodeSentToken (b : Byte) : Faithful (.sentToken b) (decodeSentToken b) :=
  faithful_ite (fun h => h ▸ faithful_ok rfl rfl) fun _ => faithful_ite (fun h => h ▸ faithful_ok rfl rfl) fun _ =>
    faithful_ite_error fun h => h ▸ faithful_ok rfl rfl

theorem faithful_decodeResponse (b : Byte) : Faithful (.response b) (decodeResponse b) :=
  faithful_ite_error fun h => faithful_ok rfl (congrArg Signal.response (responseByte_of_high h))

theorem faithful_decodeDataResponse (b : Byte) : Faithful (.dataResponse b) (decodeDataResponse b) :=
  faithful_ite_error fun h =>
    faithful_ok rfl (congrArg Signal.dataResponse (dataResponseByte_of_low ((masked_iff_low b).1 h)))

/-- Every decoder but that of the requests is faithful. -/
theorem faithful_decode {sig : Signal} (h : ∀ w, sig ≠ .request w) : Faithful sig (decode sig) := by
  cases sig with
  | frame app w => exact faithful_decodeFrame app w
  | sentToken b => exact faithful_decodeSentToken b
  | response b => exact faithful_decodeResponse b
  | startToken b | readyByte b | event line => exact faithful_ite_error fun h => h ▸ faithful_ok rfl rfl
  | dataResponse b => exact faithful_decodeDataResponse b
  | request w => exact absurd rfl (h w)

/-! ### Host requests -/

section Request

variable (pdrv : Byte) (sector : Sector) (count code : Byte)

/-- A request is decoded by its fields (R90). -/
theorem decode_requestOf (op : BitVec 3) :
    decode (.request (requestOf op pdrv sector count code)) =
      if op = Config.opStatus then .ok (.status pdrv)
      else if op = Config.opInitialize then .ok (.initializeDrive pdrv)
      else if op = Config.opRead then .ok (.read pdrv sector count)
      else if op = Config.opWrite then .ok (.write pdrv sector count)
      else if op = Config.opIoctl then .ok (decodeIoctl pdrv code)
      else .error .notAnOperation := by
  simp only [decode, decodeRequest, requestOp_requestOf, requestPdrv_requestOf, requestSector_requestOf,
    requestCount_requestOf, requestCode_requestOf]

theorem decode_ioctlRequest : decode (ioctlRequest pdrv code) = .ok (decodeIoctl pdrv code) :=
  decode_requestOf _ _ _ _ _

theorem decode_requestOf_of_le {op : BitVec 3} (h : 5#3 ≤ op) :
    decode (.request (requestOf op pdrv sector count code)) = .error .notAnOperation := by
  have ne {k : BitVec 3} (hk : k < 5#3) : op ≠ k := fun he => BitVec.not_lt.mpr (he ▸ h) hk
  rw [decode_requestOf]
  iterate 5 rw [if_neg (ne (by decide))]

/-- The unrecognized codes are those from 8 on (R91). -/
theorem decodeIoctl_of_le {code : Byte} (h : Config.codeFirstUnrecognized ≤ code) :
    decodeIoctl pdrv code = .ioctlUnrecognized pdrv code := by
  unfold decodeIoctl
  split_ifs
  case neg => rfl
  all_goals
    subst_vars
    exact absurd h (by decide)

theorem decodeIoctl_wellFormed : (decodeIoctl pdrv code).WellFormed = true := by
  unfold decodeIoctl
  split_ifs
  case neg => exact decide_eq_true (by bv_omega)
  all_goals rfl

theorem decodeRequest_wellFormed {w : RequestWord} {i : Instr} (h : decodeRequest w = .ok i) :
    i.WellFormed = true := by
  unfold decodeRequest at h
  split_ifs at h <;> cases h
  exacts [rfl, rfl, rfl, rfl, decodeIoctl_wellFormed _ _]

end Request

/-! ### The two directions -/

/-- Settles O41, port by port. -/
theorem decodeEncode : Obligations.DecodeEncode := by
  intro i hwf
  cases i with
  | cmd0 | cmd1 | cmd8 | cmd9 | cmd10 | cmd12 | acmd13 | cmd16 | cmd17 | cmd18 | cmd24 | cmd25 | cmd55 | cmd58 =>
    exact decode_frameOf _ _ _
  | acmd23 count => exact (decode_frameOf _ _ _).trans (decodeCommand_acmd23 (of_decide_eq_true hwf))
  | acmd41 arg =>
    exact (decode_frameOf _ _ _).trans (decodeCommand_acmd41 (by simpa [Instr.WellFormed] using hwf))
  | tokenRxStart | tokenStartBlock | tokenMultiWrite | tokenStopTran | ready | tick => rfl
  | r1Valid r => simp [encode, decode, decodeResponse]
  | dataRespAccepted ignored => simp [encode, decode, decodeDataResponse]
  | status | initializeDrive | read | write => exact decode_requestOf _ _ _ _ _
  | ioctlUnrecognized pdrv code =>
    exact (decode_ioctlRequest pdrv code).trans (congrArg _ (decodeIoctl_of_le pdrv (of_decide_eq_true hwf)))
  | ioctlSync | ioctlGetSectorCount | ioctlGetBlockSize | ioctlGetType | ioctlGetCsd | ioctlGetCid | ioctlGetOcr
  | ioctlGetSdstat => exact decode_ioctlRequest _ _

/-- Settles O42: a request is well-formed whatever its unused fields, and every other word is its instruction's own. -/
theorem encodeDecode : Obligations.EncodeDecode := by
  refine fun sig i h => ⟨?_, fun hsig => (faithful_decode hsig i h).2⟩
  cases sig with
  | request w => exact decodeRequest_wellFormed h
  | _ => exact (faithful_decode (by nofun) i h).1

/-- Settles O43: each word fails the test that its port's decoder begins with. -/
theorem reservedRejected : Obligations.ReservedRejected := by
  refine ⟨fun app w hs => if_neg hs, fun app idx arg hidx => ?_, fun b hs hm ht => ?_, fun b hb => ?_,
    fun b hb => if_neg hb, fun b hb => if_neg hb, fun b hb => if_neg (mt (masked_iff_low b).1 hb),
    fun op pdrv sector count code hop => decode_requestOf_of_le pdrv sector count code hop⟩
  · rw [decode_frameOf, decodeCommand_of_index_not_mem app arg hidx]
  · simp [decode, decodeSentToken, hs, hm, ht]
  · have high : b.extractLsb' 7 1 ≠ 0#1 := by revert b; decide
    exact if_neg high

end Sys2Proof
end

section
/-! PROOFS. O60: an operation writes the descriptor of one of the sixteen commands before it comes to a `SENDCMD`, and no
move of the foreground is refused there or anywhere else. -/

namespace Sys2Proof.Machine

/-! ### Where a descriptor is written -/

theorem DescriptorEmitted.elsewhere {t : State} (h : t.seq.micro ≠ .issue) : DescriptorEmitted t :=
  fun _ hm => absurd hm h

theorem DescriptorEmitted.of_idle {t : State} (h : t.seq.busy = false) : DescriptorEmitted t :=
  fun hb => absurd (h.symm.trans hb) Bool.false_ne_true

theorem DescriptorEmitted.of_eq {s t : State} (hs : DescriptorEmitted s) (seq : t.seq = s.seq) (app : t.app = s.app)
    (idx : t.idx = s.idx) (arg : t.arg = s.arg) : DescriptorEmitted t := by
  unfold DescriptorEmitted
  rw [seq, app, idx, arg]
  exact hs

section Returns

variable (s : State)

theorem descriptorEmitted_call (site : Site) {app : Bool} {idx : Index} {arg : Argument}
    (h : ∃ i, decodeCommand app idx arg = .ok i) : DescriptorEmitted (s.call site app idx arg) := by
  obtain ⟨i, hi⟩ := h
  exact fun _ _ => ⟨i, (decode_frameOf app idx arg).trans hi⟩

/-! ### The returns come to a `SENDCMD` by a call, if at all -/

theorem descriptorEmitted_closeWithValue (v : Option Word32) : DescriptorEmitted (s.closeWithValue v) := by
  cases v <;> exact .elsewhere nofun

theorem descriptorEmitted_failInit : DescriptorEmitted s.failInit := by
  unfold State.failInit
  split <;> exact .elsewhere nofun

theorem descriptorEmitted_exitOp : DescriptorEmitted s.exitOp := by
  unfold State.exitOp
  split
  · exact descriptorEmitted_failInit s
  · exact .elsewhere nofun

theorem descriptorEmitted_pollCommand : DescriptorEmitted s.pollCommand := by
  unfold State.pollCommand
  split
  · exact descriptorEmitted_call s _ ⟨_, rfl⟩
  · split <;> exact descriptorEmitted_call s _ ⟨_, rfl⟩

theorem descriptorEmitted_pollSucceeded : DescriptorEmitted s.pollSucceeded := by
  unfold State.pollSucceeded
  split
  · exact descriptorEmitted_call s _ ⟨_, rfl⟩
  · exact descriptorEmitted_call _ _ ⟨_, rfl⟩
  · exact descriptorEmitted_failInit s

theorem descriptorEmitted_initReturn (r : Byte) : DescriptorEmitted (s.initReturn r) := by
  unfold State.initReturn
  split
  · split
    · exact .elsewhere nofun
    · exact descriptorEmitted_failInit s
  · split
    · exact .elsewhere nofun
    · exact descriptorEmitted_call _ _ ⟨_, rfl⟩
  · split
    · split <;> exact .elsewhere nofun
    · split
      · exact .elsewhere nofun
      · exact descriptorEmitted_failInit s
  · split
    · split <;> exact .elsewhere nofun
    · exact .elsewhere nofun
  · split
    · exact .elsewhere nofun
    · exact descriptorEmitted_failInit s
  · exact .elsewhere nofun
  · exact .elsewhere nofun

theorem descriptorEmitted_initRaw : DescriptorEmitted s.initRaw := by
  unfold State.initRaw
  split
  · split
    · exact .elsewhere nofun
    · exact descriptorEmitted_failInit s
  · exact .elsewhere nofun
  · exact descriptorEmitted_failInit s

theorem descriptorEmitted_readReturn (r : Byte) : DescriptorEmitted (s.readReturn r) := by
  unfold State.readReturn
  split
  · exact .elsewhere nofun
  · split <;> exact .elsewhere nofun

theorem descriptorEmitted_stopRead : DescriptorEmitted s.stopRead :=
  descriptorEmitted_call s _ ⟨_, rfl⟩

theorem descriptorEmitted_readBlock (count : Byte) (received : Bool) :
    DescriptorEmitted (s.readBlock count received) := by
  unfold State.readBlock
  split
  · split <;> exact .elsewhere nofun
  · split
    · split
      · exact descriptorEmitted_stopRead _
      · exact .elsewhere nofun
    · exact descriptorEmitted_stopRead s

theorem descriptorEmitted_writeReturn (count r : Byte) : DescriptorEmitted (s.writeReturn count r) := by
  unfold State.writeReturn
  split
  · exact descriptorEmitted_call s _ ⟨_, rfl⟩
  · split <;> exact .elsewhere nofun

theorem descriptorEmitted_writeBlock (k : TxToken) (sent : Bool) : DescriptorEmitted (s.writeBlock k sent) := by
  unfold State.writeBlock
  split
  · split <;> exact .elsewhere nofun
  · split
    · split <;> exact .elsewhere nofun
    · exact .elsewhere nofun
  · split <;> exact .elsewhere nofun

theorem descriptorEmitted_queryReturn (code r : Byte) : DescriptorEmitted (s.queryReturn code r) := by
  unfold State.queryReturn
  split_ifs <;> exact .elsewhere nofun

theorem descriptorEmitted_queryBlock (code : Byte) (received : Bool) :
    DescriptorEmitted (s.queryBlock code received) := by
  unfold State.queryBlock
  split
  · split
    · exact descriptorEmitted_closeWithValue s _
    · split
      · split
        · exact .elsewhere nofun
        · exact descriptorEmitted_closeWithValue s _
      · exact .elsewhere nofun
  · exact .elsewhere nofun

theorem descriptorEmitted_operationReturn (r : Byte) : DescriptorEmitted (s.operationReturn r) := by
  unfold State.operationReturn
  split
  · exact descriptorEmitted_initReturn s r
  · exact descriptorEmitted_readReturn s r
  · exact descriptorEmitted_writeReturn s _ r
  · exact descriptorEmitted_queryReturn s _ r
  · exact .elsewhere nofun

theorem descriptorEmitted_commandReturn (pfx : Bool) (r : Byte) : DescriptorEmitted (s.commandReturn pfx r) := by
  unfold State.commandReturn
  split
  · exact .elsewhere nofun
  · exact descriptorEmitted_operationReturn _ r

theorem descriptorEmitted_selectReturn (c : SelectCaller) (selected : Bool) :
    DescriptorEmitted (s.selectReturn c selected) := by
  unfold State.selectReturn
  split
  · split
    · exact .elsewhere nofun
    · exact descriptorEmitted_commandReturn s _ _
  · split
    · split <;> exact .elsewhere nofun
    · exact descriptorEmitted_exitOp s

theorem descriptorEmitted_blockInReturn (received : Bool) : DescriptorEmitted (s.blockInReturn received) := by
  unfold State.blockInReturn
  split
  · exact descriptorEmitted_readBlock s _ received
  · exact descriptorEmitted_queryBlock s _ received
  · exact descriptorEmitted_exitOp s

theorem descriptorEmitted_blockOutReturn (k : TxToken) (sent : Bool) :
    DescriptorEmitted (s.blockOutReturn k sent) := by
  unfold State.blockOutReturn
  split
  · exact descriptorEmitted_writeBlock s k sent
  · exact descriptorEmitted_exitOp s

theorem descriptorEmitted_readyReturn (c : ReadyCaller) (isReady : Bool) :
    DescriptorEmitted (s.readyReturn c isReady) := by
  unfold State.readyReturn
  split
  · split
    · exact descriptorEmitted_selectReturn s _ true
    · exact .elsewhere nofun
  · split
    · exact .elsewhere nofun
    · exact descriptorEmitted_blockOutReturn s _ false

theorem descriptorEmitted_rawReturn : DescriptorEmitted s.rawReturn := by
  unfold State.rawReturn
  split
  · exact descriptorEmitted_initRaw s
  · exact .elsewhere nofun
  · exact descriptorEmitted_exitOp s

theorem descriptorEmitted_purgeReturn : DescriptorEmitted s.purgeReturn := by
  unfold State.purgeReturn
  split
  · exact descriptorEmitted_closeWithValue s _
  · exact descriptorEmitted_exitOp s

theorem descriptorEmitted_finish : DescriptorEmitted s.finish := by
  cases hop : s.seq.op.isInitialize with
  | true =>
    rw [finish_of_initialize s hop]
    split <;> exact .elsewhere nofun
  | false =>
    obtain ⟨r, hr⟩ := finish_of_not_initialize s hop
    rw [hr]
    exact .of_idle rfl

theorem descriptorEmitted_deselectReturn (c : DeselectCaller) : DescriptorEmitted (s.deselectReturn c) := by
  cases c with
  | command => exact .elsewhere nofun
  | selectFailed c => exact descriptorEmitted_selectReturn s c false
  | exit => exact descriptorEmitted_finish s

theorem descriptorEmitted_afterPayloadIn (i : Nat) : DescriptorEmitted (s.afterPayloadIn i) := by
  unfold State.afterPayloadIn
  split <;> exact .elsewhere nofun

theorem descriptorEmitted_afterPayloadOut (k : TxToken) (i : Nat) : DescriptorEmitted (s.afterPayloadOut k i) := by
  unfold State.afterPayloadOut
  split <;> exact .elsewhere nofun

theorem descriptorEmitted_afterRaw (i : Nat) : DescriptorEmitted (s.afterRaw i) := by
  unfold State.afterRaw
  split
  · exact .elsewhere nofun
  · exact descriptorEmitted_rawReturn s

theorem descriptorEmitted_afterFrameByte (pfx : Bool) (i : Nat) : DescriptorEmitted (s.afterFrameByte pfx i) := by
  unfold State.afterFrameByte
  split_ifs <;> exact .elsewhere nofun

end Returns

/-! ### The move of the foreground -/

/-- A move is not refused, and comes to a `SENDCMD` only with the descriptor of a command: both halves of O60 in one
predicate, so that the moves are gone through once. A fault is left to `EndsBounded`. -/
def EndsEmitted : Result → Prop
  | .next t => DescriptorEmitted t
  | .fault _ => True
  | .refused _ => False

section Move

variable {p t : State}

theorem EndsEmitted.goesTo {u : State} {m : Micro} (h : m ≠ .issue) : EndsEmitted (.next (u.goto m)) :=
  DescriptorEmitted.elsewhere h

theorem payloadInStep_emitted (i : Nat) : EndsEmitted (p.payloadInStep i) := by
  unfold State.payloadInStep
  split
  · split
    · exact descriptorEmitted_afterPayloadIn _ i
    · exact trivial
  · exact descriptorEmitted_afterPayloadIn _ i

theorem payloadOutStep_emitted (k : TxToken) (i : Nat) : EndsEmitted (p.payloadOutStep k i) := by
  unfold State.payloadOutStep
  split
  · exact descriptorEmitted_afterPayloadOut _ k i
  · exact trivial

theorem rawInStep_emitted (i : Nat) : EndsEmitted (p.rawInStep i) := by
  unfold State.rawInStep
  split
  · split
    · exact descriptorEmitted_afterRaw _ i
    · exact trivial
  · exact descriptorEmitted_afterRaw _ i

/-- Where nothing stands on the wire. -/
theorem primitive_emitted (hb : p.seq.busy = true) (hw : p.wireSignal = none) : EndsEmitted p.primitive := by
  unfold State.wireSignal at hw
  rw [if_pos hb] at hw
  unfold State.primitive
  generalize hm : p.seq.micro = m at hw ⊢
  cases m with
  | issue | response | readyPoll | tokenPoll | token | dataResponse => cases hw
  | rest => exact DescriptorEmitted.elsewhere (by rw [hm]; nofun)
  | clockSlow | deselectLatch | selectLatch | selectDummy | readyArm | stuff | tokenArm | discard | commit | markReady
  | clockFast | powerOff | markFailed => exact .goesTo nofun
  | powerUp =>
    dsimp only
    split
    · exact descriptorEmitted_call _ _ ⟨_, rfl⟩
    · exact .goesTo nofun
  | deselectDummy c => exact descriptorEmitted_deselectReturn _ c
  | readyTest c =>
    dsimp only
    split
    · exact descriptorEmitted_readyReturn p c false
    · exact .goesTo nofun
  | frame pfx i => exact descriptorEmitted_afterFrameByte _ pfx i
  | tokenTest =>
    dsimp only
    split
    · exact descriptorEmitted_blockInReturn p false
    · exact .goesTo nofun
  | payloadIn i => exact payloadInStep_emitted i
  | crcIn =>
    dsimp only
    split
    · exact descriptorEmitted_blockInReturn _ true
    · exact .goesTo nofun
  | payloadOut k i => exact payloadOutStep_emitted k i
  | crcOut =>
    dsimp only
    split <;> exact .goesTo nofun
  | rawIn i => exact rawInStep_emitted i
  | purge =>
    dsimp only
    split
    · exact descriptorEmitted_purgeReturn _
    · exact .goesTo nofun
  | armNegotiation => exact descriptorEmitted_call _ _ ⟨_, rfl⟩
  | pollTest =>
    dsimp only
    split
    · exact descriptorEmitted_failInit p
    · exact descriptorEmitted_pollCommand p
  | pollExit =>
    dsimp only
    split
    · exact descriptorEmitted_pollSucceeded p
    · split
      · exact descriptorEmitted_pollSucceeded p
      · exact descriptorEmitted_failInit p
  | reportStatus => exact DescriptorEmitted.of_idle rfl

/-! ### The moves at which something stands on the wire -/

theorem takeUp_frame_emitted (hp : DescriptorEmitted p) (hb : p.seq.busy = true) (hm : p.seq.micro = .issue) :
    EndsEmitted (takeUp (.frame p.app (frameOf p.idx p.arg)) p) := by
  obtain ⟨i, hi⟩ := hp hb hm
  rw [takeUp_frame_of_ok hi, State.sendCommand, if_pos (by rw [State.atIssue, hb, hm]; rfl)]
  unfold State.startCommand
  split <;> exact .goesTo nofun

theorem sendToken_emitted {k : TxToken} (hb : p.seq.busy = true) (hm : p.seq.micro = .token k) :
    EndsEmitted (p.sendToken k) := by
  unfold State.sendToken
  rw [if_pos (by rw [hb, hm]; exact beq_self_eq_true (Micro.token k))]
  cases k with
  | stopTran => exact descriptorEmitted_blockOutReturn _ .stopTran true
  | startBlock | multiWrite => exact .goesTo nofun

theorem response_emitted {pfx : Bool} (b : Byte) (hb : p.seq.busy = true) (hm : p.seq.micro = .response pfx) :
    EndsEmitted (takeUp (.response b) p) := by
  have returns : EndsEmitted (.next ((p.pollExchange b).commandReturn pfx b)) := descriptorEmitted_commandReturn _ pfx b
  rw [takeUp_response]
  split
  · simp only [State.takeResponse, hm, if_pos hb]
    exact returns
  · simp only [State.missResponse, hm]
    split
    · exact returns
    · exact DescriptorEmitted.elsewhere (by rw [State.pollExchange_seq, hm]; nofun)

theorem startToken_emitted (b : Byte) (hb : p.seq.busy = true) (hm : p.seq.micro = .tokenPoll) :
    EndsEmitted (takeUp (.startToken b) p) := by
  rw [takeUp_startToken]
  split
  · rw [takeStartToken_of_standsAt ⟨hb, hm⟩]
    exact .goesTo nofun
  · unfold State.missStartToken
    split
    · exact .goesTo nofun
    · exact descriptorEmitted_blockInReturn _ false

theorem readyByte_emitted {c : ReadyCaller} (b : Byte) (hb : p.seq.busy = true) (hm : p.seq.micro = .readyPoll c) :
    EndsEmitted (takeUp (.readyByte b) p) := by
  rw [takeUp_readyByte]
  split
  · simp only [State.takeReady, hm, if_pos hb]
    exact descriptorEmitted_readyReturn _ c true
  · simp only [State.missReady, hm]
    exact .goesTo nofun

theorem dataResponse_emitted {k : TxToken} (b : Byte) (hb : p.seq.busy = true)
    (hm : p.seq.micro = .dataResponse k) : EndsEmitted (takeUp (.dataResponse b) p) := by
  rw [takeUp_dataResponse]
  split
  · simp only [State.takeDataResponse, hm, if_pos hb]
    exact descriptorEmitted_blockOutReturn _ k true
  · simp only [State.missDataResponse, hm]
    exact descriptorEmitted_blockOutReturn _ k false

theorem takeUp_wire_emitted {sig : Signal} (hp : DescriptorEmitted p) (hb : p.seq.busy = true)
    (hw : p.wireSignal = some sig) : EndsEmitted (takeUp sig p) := by
  unfold State.wireSignal at hw
  rw [if_pos hb] at hw
  split at hw <;> cases hw
  next hm => exact takeUp_frame_emitted hp hb hm
  next hm => rw [takeUp_sentToken]; exact sendToken_emitted hb hm
  next hm => exact response_emitted _ hb hm
  next hm => exact startToken_emitted _ hb hm
  next hm => exact readyByte_emitted _ hb hm
  next hm => exact dataResponse_emitted _ hb hm

/-! ### A host request -/

theorem descriptorEmitted_startQuery (pdrv code : Byte) {app : Bool} {idx : Index}
    (h : ∃ i, decodeCommand app idx 0#Config.argWidth = .ok i) :
    DescriptorEmitted (p.startQuery pdrv code app idx) :=
  descriptorEmitted_call _ _ h

theorem ioctlGate_emitted {pdrv : Byte} {body : Result} (h : p.ioctlGate pdrv body = .next t)
    (hbody : body = .next t → DescriptorEmitted t) : DescriptorEmitted t := by
  obtain ⟨hi, h⟩ := whenIdle_next h
  split_ifs at h
  · cases h; exact .of_idle hi
  · cases h; exact .of_idle hi
  · exact hbody h

theorem execRead_emitted {pdrv : Byte} {sector : Sector} {count : Byte} (h : execRead pdrv sector count p = .next t) :
    DescriptorEmitted t := by
  obtain ⟨hi, h⟩ := whenIdle_next h
  split_ifs at h <;> cases h
  · exact .of_idle hi
  · exact .of_idle hi
  all_goals exact descriptorEmitted_call _ _ ⟨_, rfl⟩

theorem countArgument_toNat_lt (count : Byte) : (countArgument count).toNat < 256 := by
  have h : (countArgument count).toNat = count.toNat := BitVec.toNat_setWidth_of_le (by decide)
  rw [h]
  exact count.isLt

theorem descriptorEmitted_startWrite (sector : Sector) (count : Byte) :
    DescriptorEmitted (p.startWrite sector count) := by
  unfold State.startWrite
  split_ifs
  · exact descriptorEmitted_call _ _ ⟨_, rfl⟩
  · exact descriptorEmitted_call _ _ ⟨_, decodeCommand_acmd23 (countArgument_toNat_lt count)⟩
  · exact descriptorEmitted_call _ _ ⟨_, rfl⟩

theorem execWrite_emitted {pdrv : Byte} {sector : Sector} {count : Byte}
    (h : execWrite pdrv sector count p = .next t) : DescriptorEmitted t := by
  obtain ⟨hi, h⟩ := whenIdle_next h
  split_ifs at h <;> cases h
  case neg => exact descriptorEmitted_startWrite _ _
  all_goals exact .of_idle hi

theorem exec_decodeIoctl_emitted {pdrv code : Byte} (h : exec (decodeIoctl pdrv code) p = .next t) :
    DescriptorEmitted t := by
  unfold decodeIoctl at h
  split_ifs at h <;> refine ioctlGate_emitted h fun h => ?_
  · cases h; exact .elsewhere nofun
  · cases h; exact descriptorEmitted_startQuery _ _ ⟨_, rfl⟩
  · split at h <;> cases h <;> exact descriptorEmitted_startQuery _ _ ⟨_, rfl⟩
  · cases h; exact .elsewhere nofun
  · cases h; exact descriptorEmitted_startQuery _ _ ⟨_, rfl⟩
  · cases h; exact descriptorEmitted_startQuery _ _ ⟨_, rfl⟩
  · cases h; exact descriptorEmitted_startQuery _ _ ⟨_, rfl⟩
  · split at h <;> cases h
    · exact descriptorEmitted_startQuery _ _ ⟨_, rfl⟩
    · exact .elsewhere nofun
  · cases h; exact .elsewhere nofun

theorem takeUp_request_emitted {w : RequestWord} (h : takeUp (.request w) p = .next t) : DescriptorEmitted t := by
  unfold takeUp at h
  split at h
  next i hd =>
    simp only [decode, decodeRequest] at hd
    split_ifs at hd <;> cases hd
    · obtain ⟨hi, h⟩ := whenIdle_next h
      cases h; exact .of_idle hi
    · obtain ⟨hi, h⟩ := whenIdle_next h
      split_ifs at h <;> cases h
      · exact .of_idle hi
      · exact .elsewhere nofun
    · exact execRead_emitted h
    · exact execWrite_emitted h
    · exact exec_decodeIoctl_emitted h
  · cases h

end Move

/-! ### The step -/

section Step

variable {s t : State}

theorem step_foreground_emitted (hs : DescriptorEmitted s) (he : s.nextEvent = .foreground) : EndsEmitted (step s) := by
  have hp : DescriptorEmitted s.popEvent := hs.of_eq (by simp) (by simp) (by simp) (by simp)
  cases hb : s.seq.busy with
  | false => rw [step_foreground_idle he hb]; exact hp
  | true =>
    have hb' : s.popEvent.seq.busy = true := by simpa using hb
    cases hw : s.popEvent.wireSignal with
    | some sig => rw [step_foreground_wire he hw]; exact takeUp_wire_emitted hp hb' hw
    | none => rw [step_foreground_primitive he hb hw]; exact primitive_emitted hb' hw

theorem step_keeps_descriptorEmitted (hs : DescriptorEmitted s) (h : step s = .next t) : DescriptorEmitted t := by
  cases he : s.nextEvent with
  | foreground =>
    have ends := step_foreground_emitted hs he
    rwa [h] at ends
  | tick => rw [step_tick he] at h; cases h; exact hs.of_eq (by simp) (by simp) (by simp) (by simp)
  | lines cd wp => rw [step_lines he] at h; cases h; exact hs.of_eq (by simp) (by simp) (by simp) (by simp)
  | request buffer w => rw [step_request he] at h; exact takeUp_request_emitted h
  | hostWrite buffer offset b =>
    rw [step_hostWrite he] at h
    unfold State.hostWrites at h
    split_ifs at h
    cases h
    exact hs.of_eq (by simp) (by simp) (by simp) (by simp)
  | reset => rw [step_reset he] at h; cases h; exact .of_idle rfl

/-- Settles O60: the foreground's move is never refused, and within the bounds of the transfer it never faults. -/
theorem foregroundProgresses : Obligations.ForegroundProgresses := by
  refine ⟨fun s t hs h => step_keeps_descriptorEmitted hs h, fun s hbound hs he => ?_⟩
  have unrefused := step_foreground_emitted hs he
  have faultless := step_foreground_bounded hbound he
  cases h : step s with
  | next t => exact ⟨t, rfl⟩
  | fault f => rw [h] at faultless; exact faultless.elim
  | refused r => rw [h] at unrefused; exact unrefused.elim

end Step

end Sys2Proof.Machine
end

section
/-! PROOFS. O29: the data response decides a block that `WRITE` sent. -/

namespace Sys2Proof.Machine

variable {s : State} {k : TxToken}

theorem takeDataResponse_of_standsAt (hs : s.standsAt (.dataResponse k)) (b : Byte) :
    s.takeDataResponse b = .next ((s.exchange Config.fill b).blockOutReturn k true) := by
  obtain ⟨hb, hm⟩ := hs
  simp only [State.takeDataResponse, hm, if_pos hb]

theorem missDataResponse_of_standsAt (hs : s.standsAt (.dataResponse k)) (b : Byte) :
    s.missDataResponse b = .next ((s.exchange Config.fill b).blockOutReturn k false) := by
  simp only [State.missDataResponse, hs.2]

section Caller

variable {p count : Byte} {sector : Sector} {h : Nat}

theorem blockOutReturn_write (hop : s.seq.op = .write p sector count h) (sent : Bool) :
    s.blockOutReturn k sent = s.writeBlock k sent := by
  simp only [State.blockOutReturn, hop]

/-- The accepted block of a multi-block write is counted, and the stop token follows the last (R172). -/
theorem writeBlock_multiWrite_sent :
    s.writeBlock .multiWrite true =
      s.countBlock.goto (.readyArm (.block (if s.seq.owed - 1 = 0 then .stopTran else .multiWrite))) := by
  simp only [State.writeBlock, if_true]
  split <;> rfl

theorem exec_dataRespAccepted (hop : s.seq.op = .write p sector count h) (hs : s.standsAt (.dataResponse k))
    (ignored : BitVec 3) :
    exec (.dataRespAccepted ignored) s =
      .next ((s.exchange Config.fill (dataResponseByte ignored)).writeBlock k true) := by
  have taken := takeDataResponse_of_standsAt hs (dataResponseByte ignored)
  rwa [blockOutReturn_write (s := s.exchange _ _) hop] at taken

theorem step_dataResponse_rejected (hop : s.seq.op = .write p sector count h) (hs : s.standsAt (.dataResponse k))
    (he : s.nextEvent = .foreground) (hr : s.reply.extractLsb' 0 5 ≠ 0b00101#5) :
    step s = .next ((s.popEvent.exchange Config.fill s.reply).writeBlock k false) := by
  have stands : s.popEvent.standsAt (.dataResponse k) := by simpa [State.standsAt] using hs
  obtain ⟨hb, hm⟩ := stands
  rw [step_foreground_wire he (wireSignal_dataResponse hb hm), takeUp_dataResponse, State.popEvent_reply, if_neg hr,
    missDataResponse_of_standsAt ⟨hb, hm⟩, blockOutReturn_write (by simpa using hop)]

end Caller

/-- Settles O29: what `SENDBLOCK` returns to `WRITE`, and the branch of `WRITE` for it. -/
theorem dataResponse : Obligations.DataResponse := by
  refine fun s p sector count h hop =>
    ⟨fun ignored => ⟨fun hs => ?_, fun hs => ?_⟩, fun he hr => ⟨fun hs => ?_, fun hs => ?_⟩⟩
  · rw [exec_dataRespAccepted hop hs]; rfl
  · rw [exec_dataRespAccepted hop hs, writeBlock_multiWrite_sent]; rfl
  · rw [step_dataResponse_rejected hop hs he hr]; rfl
  · rw [step_dataResponse_rejected hop hs he hr]; rfl

end Sys2Proof.Machine
end

section
/-! PROOFS. O30: the four raw bytes after a response. -/

namespace Sys2Proof.Machine

variable {s : State} {k : Nat}

/-! ### The raw bytes and where they go -/

/-- Bytes written to consecutive places of `SCR`. -/
def setBytes : Vector Byte 16 → Nat → List Byte → Vector Byte 16
  | scr, _, [] => scr
  | scr, i, b :: bytes => setBytes (scr.setIfInBounds i b) (i + 1) bytes

/-- The host buffers after raw bytes from byte `i` on: `IOCTL.GET_OCR` keeps them in its buffer (R192). -/
def HostOp.rawStored (op : HostOp) (buffers : List Host.Cell) (i : Nat) (bytes : List Byte) : List Host.Cell :=
  match op with
  | .ioctl _ _ h => Memory.writeBytes buffers (bufferCell h i) bytes
  | _ => buffers

/-- Raw bytes arrived, from byte `i` on (R76). -/
def State.receivedRaw (i : Nat) (bytes : List Byte) (s : State) : State :=
  { s.heard bytes with
    scr := setBytes s.scr i bytes
    buffers := s.seq.op.rawStored s.buffers i bytes }

theorem HostOp.rawStored_cons (op : HostOp) (buffers : List Host.Cell) (i : Nat) (b : Byte) (bytes : List Byte) :
    op.rawStored (op.rawStored buffers i [b]) (i + 1) bytes = op.rawStored buffers i (b :: bytes) := by
  cases op with
  | ioctl p code h =>
    change Memory.writeBytes (Memory.write buffers (bufferCell h i) b) (bufferCell h (i + 1)) bytes = _
    rw [bufferCell_add]
    rfl
  | _ => rfl

theorem receivedRaw_cons (i : Nat) (b : Byte) (bytes : List Byte) :
    (s.receivedRaw i [b]).receivedRaw (i + 1) bytes = s.receivedRaw i (b :: bytes) := by
  have stored := HostOp.rawStored_cons s.seq.op s.buffers i b bytes
  have listened := heard_heard (s := s) [b] bytes
  calc (s.receivedRaw i [b]).receivedRaw (i + 1) bytes
    _ = { (s.heard [b]).heard bytes with
          scr := setBytes s.scr i (b :: bytes)
          buffers := s.seq.op.rawStored (s.seq.op.rawStored s.buffers i [b]) (i + 1) bytes } := rfl
    _ = s.receivedRaw i (b :: bytes) := by rw [stored, listened]; rfl

theorem receivedRaw_goto (m : Micro) (i : Nat) (bytes : List Byte) :
    (s.goto m).receivedRaw i bytes = (s.receivedRaw i bytes).goto m := rfl

theorem standsAt_receivedRaw (hb : s.seq.busy = true) (i : Nat) (bytes : List Byte) (m : Micro) :
    ((s.receivedRaw i bytes).goto m).standsAt m := ⟨hb, rfl⟩

/-! ### The four exchanges -/

theorem wireSignal_rawIn {i : Nat} (hm : s.seq.micro = .rawIn i) : s.wireSignal = none := by
  simp [State.wireSignal, hm]

theorem primitive_rawIn {i : Nat} (hm : s.seq.micro = .rawIn i) : s.primitive = s.rawInStep i := by
  simp only [State.primitive, hm]

theorem rawInStep_of_lt {i : Nat} (hi : i < Config.bufferSize) :
    s.rawInStep i =
      .next (({ s.send Config.fill with
        scr := s.scr.setIfInBounds i s.reply
        buffers := s.seq.op.rawStored s.buffers i [s.reply] } : State).afterRaw i) := by
  unfold State.rawInStep
  cases s.seq.op with
  | ioctl => exact if_pos hi
  | _ => rfl

theorem step_rawIn_scripted {i : Nat} (hs : s.standsAt (.rawIn i)) (hi : i < Config.bufferSize) (b : Byte)
    (bytes : List Byte) :
    step (s.scripted (k + 1) (b :: bytes)) = .next (((s.receivedRaw i [b]).scripted k bytes).afterRaw i) := by
  obtain ⟨hb, hm⟩ := hs
  calc step (s.scripted (k + 1) (b :: bytes))
    _ = (s.scripted k (b :: bytes)).primitive := step_scripted_primitive _ hb (wireSignal_rawIn hm)
    _ = (s.scripted k (b :: bytes)).rawInStep i := primitive_rawIn hm
    _ = .next (((s.receivedRaw i [b]).scripted k bytes).afterRaw i) := rawInStep_of_lt hi

theorem step_rawIn_more {i : Nat} (hs : s.standsAt (.rawIn i)) (hi : i < 3) (b : Byte) (bytes : List Byte) :
    step (s.scripted (k + 1) (b :: bytes)) =
      .next (((s.receivedRaw i [b]).goto (.rawIn (i + 1))).scripted k bytes) := by
  rw [step_rawIn_scripted hs (Nat.lt_trans hi (by decide)), State.afterRaw, rawLen_eq, if_pos (by omega)]
  rfl

theorem step_rawIn_last (hs : s.standsAt (.rawIn 3)) (b : Byte) :
    step (s.scripted 1 [b]) = .next (s.receivedRaw 3 [b]).rawReturn := by
  rw [step_rawIn_scripted (k := 0) hs (by decide), State.afterRaw, rawLen_eq, if_neg (by decide), scripted_zero_nil]

theorem runFor_rawIn (hs : s.standsAt (.rawIn 0)) (b0 b1 b2 b3 : Byte) :
    runFor 4 (s.scripted 4 [b0, b1, b2, b3]) =
      .next ((s.receivedRaw 0 [b0, b1, b2, b3]).goto (.rawIn 3)).rawReturn := by
  have second := standsAt_receivedRaw hs.1 0 [b0] (.rawIn 1)
  have third := standsAt_receivedRaw second.1 1 [b1] (.rawIn 2)
  have fourth := standsAt_receivedRaw third.1 2 [b2] (.rawIn 3)
  rw [runFor_succ_of_next (step_rawIn_more hs (by decide) b0 _),
    runFor_succ_of_next (step_rawIn_more second (by decide) b1 _),
    runFor_succ_of_next (step_rawIn_more third (by decide) b2 _),
    runFor_succ_of_next (step_rawIn_last fourth b3), runFor_zero]
  simp only [receivedRaw_goto, State.goto_goto]
  rw [receivedRaw_cons 2, receivedRaw_cons 1, receivedRaw_cons 0]

/-! ### What the caller does with them -/

theorem rawReturn_ioctl {p code : Byte} {h : Nat} (hop : s.seq.op = .ioctl p code h) :
    s.rawReturn = s.closeWith .ok := by
  simp only [State.rawReturn, hop]

/-- The echo test of `CMD8` (R76, R152). -/
theorem rawReturn_interfaceCheck {p : Byte} (hop : s.seq.op = .initializeDrive p)
    (hph : s.seq.phase = .interfaceCheck) :
    s.rawReturn =
      if s.scr[2] = 0x01#8 ∧ s.scr[3] = 0xAA#8 then s.enterPhase .v2Negotiate .pollTest
      else { s with seq := { s.seq with phase := .failed, ty := 0x00#8, micro := .commit } } := by
  simp only [State.rawReturn, hop, State.initRaw, hph, State.failInit, echoGood, Bool.and_eq_true, beq_iff_eq]

theorem rawReturn_v2Negotiate {p : Byte} (hop : s.seq.op = .initializeDrive p) (hph : s.seq.phase = .v2Negotiate) :
    s.rawReturn = s.finishInit (sd2Type s.scr[0]) := by
  simp only [State.rawReturn, hop, State.initRaw, hph]

/-- The card is Block-Addressed iff bit 6 of the first OCR byte is set (R85, R154). -/
theorem sd2Type_eq (ocr0 : Byte) : sd2Type ocr0 = if ocr0.getLsbD 6 then 0x0C#8 else 0x04#8 := by
  revert ocr0
  decide

/-- What the four exchanges leave. -/
theorem receivedRaw_four (b0 b1 b2 b3 : Byte) :
    s.receivedRaw 0 [b0, b1, b2, b3] =
      { s with
        scr := (((s.scr.setIfInBounds 0 b0).setIfInBounds 1 b1).setIfInBounds 2 b2).setIfInBounds 3 b3
        exchanges := s.exchanges + 4
        trace := exchangesOf [0xFF#8, 0xFF#8, 0xFF#8, 0xFF#8] [b0, b1, b2, b3] ++ s.trace
        buffers := s.seq.op.rawStored s.buffers 0 [b0, b1, b2, b3] } := rfl

theorem HostOp.rawStored_initialize {op : HostOp} {p : Byte} (hop : op = .initializeDrive p)
    (buffers : List Host.Cell) (i : Nat) (bytes : List Byte) : op.rawStored buffers i bytes = buffers := by
  subst hop
  rfl

/-- Settles O30: the run of the four exchanges, then the caller's branch. -/
theorem rawBytesReceived : Obligations.RawBytesReceived := by
  intro s b0 b1 b2 b3 hs hwf run t
  have hrun : run = .next ((s.receivedRaw 0 [b0, b1, b2, b3]).goto (.rawIn 3)).rawReturn :=
    runFor_rawIn hs b0 b1 b2 b3
  have received : s.receivedRaw 0 [b0, b1, b2, b3] =
      { t with buffers := s.seq.op.rawStored s.buffers 0 [b0, b1, b2, b3] } := receivedRaw_four b0 b1 b2 b3
  rw [hrun, received]
  refine ⟨fun p hop hph => ?_, fun p hop hph => ?_, fun p code h hop => ?_⟩
  · have scr2 : t.scr[2] = b2 := by simp [t]
    have scr3 : t.scr[3] = b3 := by simp [t]
    rw [HostOp.rawStored_initialize hop, rawReturn_interfaceCheck (s := t.goto (.rawIn 3)) hop hph,
      State.goto_scr, scr2, scr3]
    rfl
  · have scr0 : t.scr[0] = b0 := by simp [t]
    rw [HostOp.rawStored_initialize hop, rawReturn_v2Negotiate (s := t.goto (.rawIn 3)) hop hph,
      State.goto_scr, scr0, sd2Type_eq]
    rfl
  · have offset (k : Nat) : bufferCell h k = bufferCell h 0 + k := by rw [← bufferCell_add, Nat.zero_add]
    refine ⟨s.seq.op.rawStored s.buffers 0 [b0, b1, b2, b3], ?_, ?_⟩
    · exact congrArg Host.Outcome.next (rawReturn_ioctl (s := State.goto (.rawIn 3) _) hop)
    · rw [hop]
      refine ⟨fun k hk => ?_, fun c hc => ?_⟩
      · rw [offset k]
        exact Memory.read_writeBytes_inside hwf hk
      · rw [offset 4] at hc
        exact Memory.read_writeBytes_outside hwf hc

end Sys2Proof.Machine
end

section
/-! PROOFS. O23, O24: the ready wait, and what its caller does with its end. -/

namespace Sys2Proof.Machine

variable {s : State} {c : ReadyCaller}

theorem standsAt_popEvent {m : Micro} (hs : s.standsAt m) : s.popEvent.standsAt m := by
  simpa [State.standsAt] using hs

/-! ### The places of the wait -/

theorem wireSignal_readyArm (hm : s.seq.micro = .readyArm c) : s.wireSignal = none := by
  simp [State.wireSignal, hm]

theorem wireSignal_readyTest (hm : s.seq.micro = .readyTest c) : s.wireSignal = none := by
  simp [State.wireSignal, hm]

theorem primitive_readyArm (hm : s.seq.micro = .readyArm c) :
    s.primitive = .next ((s.arm2 Config.tReady).goto (.readyPoll c)) := by
  simp only [State.primitive, hm]

theorem primitive_readyTest_running (hm : s.seq.micro = .readyTest c) (ht : s.tmr2 ≠ 0#16) :
    s.primitive = .next (s.goto (.readyPoll c)) := by
  simp only [State.primitive, hm]
  exact if_neg ht

theorem primitive_readyTest_expired (hm : s.seq.micro = .readyTest c) (ht : s.tmr2 = 0#16) :
    s.primitive = .next (s.readyReturn c false) := by
  simp only [State.primitive, hm]
  exact if_pos ht

theorem takeReady_of_standsAt (hs : s.standsAt (.readyPoll c)) :
    s.takeReady = .next ((s.exchange Config.fill Config.fill).readyReturn c true) := by
  obtain ⟨hb, hm⟩ := hs
  simp only [State.takeReady, hm]
  exact if_pos hb

theorem exec_ready (hs : s.standsAt (.readyPoll c)) :
    exec .ready s = .next ((s.exchange Config.fill Config.fill).readyReturn c true) :=
  takeReady_of_standsAt hs

theorem missReady_of_standsAt (hs : s.standsAt (.readyPoll c)) (b : Byte) :
    s.missReady b = .next ((s.exchange Config.fill b).goto (.readyTest c)) := by
  simp only [State.missReady, hs.2]

/-! ### The steps of the wait -/

theorem step_readyArm (he : s.nextEvent = .foreground) (hs : s.standsAt (.readyArm c)) :
    step s = .next ((s.popEvent.arm2 Config.tReady).goto (.readyPoll c)) := by
  obtain ⟨hb, hm⟩ := standsAt_popEvent hs
  rw [step_foreground_primitive he hs.1 (wireSignal_readyArm hm), primitive_readyArm hm]

theorem step_readyPoll_busy (he : s.nextEvent = .foreground) (hs : s.standsAt (.readyPoll c))
    (hr : s.reply ≠ 0xFF#8) :
    step s = .next ((s.popEvent.exchange Config.fill s.reply).goto (.readyTest c)) := by
  obtain ⟨hb, hm⟩ := standsAt_popEvent hs
  rw [step_foreground_wire he (wireSignal_readyPoll hb hm), takeUp_readyByte, State.popEvent_reply, if_neg hr,
    missReady_of_standsAt ⟨hb, hm⟩]

theorem step_readyTest_running (he : s.nextEvent = .foreground) (hs : s.standsAt (.readyTest c))
    (ht : s.tmr2 ≠ 0#16) : step s = .next (s.popEvent.goto (.readyPoll c)) := by
  obtain ⟨hb, hm⟩ := standsAt_popEvent hs
  rw [step_foreground_primitive he hs.1 (wireSignal_readyTest hm),
    primitive_readyTest_running hm (by rwa [State.popEvent_tmr2])]

theorem step_readyTest_expired (he : s.nextEvent = .foreground) (hs : s.standsAt (.readyTest c))
    (ht : s.tmr2 = 0#16) : step s = .next (s.popEvent.readyReturn c false) := by
  obtain ⟨hb, hm⟩ := standsAt_popEvent hs
  rw [step_foreground_primitive he hs.1 (wireSignal_readyTest hm),
    primitive_readyTest_expired hm (by rwa [State.popEvent_tmr2])]

/-! ### What the caller does with the end of the wait -/

theorem readyReturn_select_failed (k : SelectCaller) :
    s.readyReturn (.select k) false = s.goto (.deselectLatch (.selectFailed k)) := rfl

theorem readyReturn_command_ready (pfx : Bool) :
    s.readyReturn (.select (.command pfx)) true = s.goto (.frame pfx 0) := rfl

theorem readyReturn_sync_ready {p code : Byte} {h : Nat} (hop : s.seq.op = .ioctl p code h) :
    s.readyReturn (.select .sync) true = s.closeWith .ok := by
  simp only [State.readyReturn, State.selectReturn, hop, if_true]

theorem readyReturn_block_ready (k : TxToken) : s.readyReturn (.block k) true = s.goto (.token k) := rfl

/-- A block whose wait expired is a block that failed (R141). -/
theorem readyReturn_block_failed {p count : Byte} {sector : Sector} {h : Nat} (k : TxToken)
    (hop : s.seq.op = .write p sector count h) : s.readyReturn (.block k) false = s.writeBlock k false :=
  blockOutReturn_write hop false

theorem step_block_expired {p count : Byte} {sector : Sector} {h : Nat} {k : TxToken}
    (hop : s.seq.op = .write p sector count h) (he : s.nextEvent = .foreground)
    (hs : s.standsAt (.readyTest (.block k))) (ht : s.tmr2 = 0#16) :
    step s = .next (s.popEvent.writeBlock k false) := by
  rw [step_readyTest_expired he hs ht, readyReturn_block_failed k (by rwa [State.popEvent_seq])]

/-- Settles O23: the step at each place of the wait, and at the expiry the caller's branch. -/
theorem readyWait : Obligations.ReadyWait := by
  refine fun s c he => ⟨step_readyArm he, step_readyPoll_busy he, step_readyTest_running he, fun hs ht =>
    ⟨?select, fun p sector count h hop => ⟨?startBlock, ?multiWrite, ?stopTran⟩⟩⟩
  case select =>
    rintro k rfl
    rw [step_readyTest_expired he hs ht, readyReturn_select_failed]
  case startBlock =>
    rintro rfl
    rw [step_block_expired hop he hs ht]; rfl
  case multiWrite =>
    rintro rfl
    rw [step_block_expired hop he hs ht]; rfl
  case stopTran =>
    rintro rfl
    rw [step_block_expired hop he hs ht, ← State.popEvent_seq s]; rfl

/-- Settles O24: the exchange of the ready byte, then the caller's branch. -/
theorem readyTaken : Obligations.ReadyTaken := by
  refine fun s => ⟨fun pfx hs => ?_, fun k hs => ?_, fun p code h hs hop => ?_⟩
  · rw [exec_ready hs, readyReturn_command_ready]
  · rw [exec_ready hs, readyReturn_block_ready]
  · rw [exec_ready hs, readyReturn_sync_ready (s := s.exchange _ _) hop]; rfl

end Sys2Proof.Machine
end

section
/-! PROOFS. O15, O16: how a command begins. -/

namespace Sys2Proof.Machine

variable {s : State}

/-- Where `SENDCMD` stands, a command frame performs the first primitive of its transaction. -/
theorem sendCommand_of_standsAt (hs : s.standsAt .issue) (app : Bool) (idx : Index) (arg : Argument) :
    s.sendCommand app idx arg = .next (s.startCommand app idx arg) := by
  obtain ⟨hb, hm⟩ := hs
  rw [State.sendCommand, if_pos (by rw [State.atIssue, hb, hm]; rfl)]

/-- Every command but the plain `CMD12` begins with its reselection (R110, R111). -/
theorem startCommand_reselects {app : Bool} {idx : Index} (arg : Argument)
    (h : app = true ∨ idx ≠ Config.idxStopTransmission) :
    s.startCommand app idx arg = ((s.describe app idx arg).setCs .deasserted).goto (.deselectDummy (.command app)) :=
  if_neg fun ⟨hplain, hstop⟩ => h.elim (fun happ => by simp [happ] at hplain) (absurd hstop)

/-- `CMD12` begins with the first byte of its frame (R114). -/
theorem startCommand_stop (arg : Argument) :
    s.startCommand false Config.idxStopTransmission arg =
      ((s.describe false Config.idxStopTransmission arg).send
        (frameByte (frameOf Config.idxStopTransmission arg) 0)).goto (.frame false 1) :=
  if_pos ⟨rfl, rfl⟩

/-- Settles O15: each of the twelve has its descriptor, and none is `CMD12`. -/
theorem plainCommandBegins : Obligations.PlainCommandBegins := by
  intro s addr hs c hc
  have descriptor : exec c.1 s = s.sendCommand false c.2.1 c.2.2 ∧ c.2.1 ≠ Config.idxStopTransmission := by
    fin_cases hc <;> exact ⟨rfl, by dsimp only; decide⟩
  obtain ⟨hexec, hidx⟩ := descriptor
  rw [hexec, sendCommand_of_standsAt hs, startCommand_reselects _ (.inr hidx)]
  rfl

/-- Settles O16: each of the three has its descriptor, and an app-command begins with the reselection of its `CMD55`. -/
theorem appCommandBegins : Obligations.AppCommandBegins := by
  intro s arg hs c hc
  have descriptor : exec c.1 s = s.sendCommand true c.2.1 c.2.2 := by
    fin_cases hc <;> rfl
  rw [descriptor, sendCommand_of_standsAt hs, startCommand_reselects _ (.inl rfl)]
  rfl

end Sys2Proof.Machine
end

section
/-! PROOFS. O17, O18: the run of `SENDCMD` up to its response poll. -/

namespace Sys2Proof.Machine

variable {s t : State} {k : Nat} {pfx : Bool}

/-! ### Exchanges of any bytes -/

/-- These bytes were sent, and the card answered each. -/
def State.exchanged (sent received : List Byte) (s : State) : State :=
  { s with
    exchanges := s.exchanges + received.length
    trace := exchangesOf sent received ++ s.trace }

section Fields

variable (sent received : List Byte)

@[simp] theorem exchanged_seq : (s.exchanged sent received).seq = s.seq := rfl
@[simp] theorem exchanged_idx : (s.exchanged sent received).idx = s.idx := rfl
@[simp] theorem exchanged_arg : (s.exchanged sent received).arg = s.arg := rfl

end Fields

theorem exchanged_exchanged (sent received sent' received' : List Byte) (h : sent.length = received.length) :
    (s.exchanged sent received).exchanged sent' received' = s.exchanged (sent ++ sent') (received ++ received') := by
  simp [State.exchanged, exchangesOf, List.zipWith_append h, Nat.add_assoc]

theorem exchanged_cons (tx rx : Byte) (sent received : List Byte) :
    (s.exchanged [tx] [rx]).exchanged sent received = s.exchanged (tx :: sent) (rx :: received) :=
  exchanged_exchanged [tx] [rx] sent received rfl

theorem exchanged_goto (m : Micro) (sent received : List Byte) :
    (s.goto m).exchanged sent received = (s.exchanged sent received).goto m := rfl

theorem scripted_goto (m : Micro) (bytes : List Byte) : (s.goto m).scripted k bytes = (s.scripted k bytes).goto m := rfl

/-! ### The primitives of `SENDCMD` -/

/-- Where `p` stands there is nothing to decode, and its primitive leads to `t`. -/
def State.Performs (p t : State) : Prop := p.wireSignal = none ∧ p.primitive = .next t

theorem step_of_performs (he : s.nextEvent = .foreground) (hb : s.seq.busy = true) (h : s.popEvent.Performs t) :
    step s = .next t := by
  obtain ⟨hw, hp⟩ := h
  rw [step_foreground_primitive he hb hw, hp]

theorem step_scripted_of_performs {bytes : List Byte} (hb : s.seq.busy = true) (h : (s.scripted k bytes).Performs t) :
    step (s.scripted (k + 1) bytes) = .next t :=
  step_of_performs rfl hb h

section Primitives

variable {p : State}

theorem performs_deselectLatch {c : DeselectCaller} (hm : p.seq.micro = .deselectLatch c) :
    p.Performs ((p.setCs .deasserted).goto (.deselectDummy c)) := by
  simp only [State.Performs, State.wireSignal, State.primitive, hm, ite_self, and_self]

theorem performs_deselectDummy {c : DeselectCaller} (hm : p.seq.micro = .deselectDummy c) :
    p.Performs ((p.send Config.fill).deselectReturn c) := by
  simp only [State.Performs, State.wireSignal, State.primitive, hm, ite_self, and_self]

theorem performs_selectLatch {c : SelectCaller} (hm : p.seq.micro = .selectLatch c) :
    p.Performs ((p.setCs .asserted).goto (.selectDummy c)) := by
  simp only [State.Performs, State.wireSignal, State.primitive, hm, ite_self, and_self]

theorem performs_selectDummy {c : SelectCaller} (hm : p.seq.micro = .selectDummy c) :
    p.Performs ((p.send Config.fill).goto (.readyArm (.select c))) := by
  simp only [State.Performs, State.wireSignal, State.primitive, hm, ite_self, and_self]

theorem performs_frame {i : Nat} (hm : p.seq.micro = .frame pfx i) :
    p.Performs ((p.send (frameByte (wireFrame pfx p.idx p.arg) i)).afterFrameByte pfx i) := by
  simp only [State.Performs, State.wireSignal, State.primitive, hm, ite_self, and_self]

theorem performs_stuff (hm : p.seq.micro = .stuff) :
    p.Performs (({ p.send Config.fill with n := Config.nRespPoll } : State).goto (.response false)) := by
  simp only [State.Performs, State.wireSignal, State.primitive, hm, ite_self, and_self]

end Primitives

/-! ### The frame -/

/-- The bytes of a frame from byte `i` on, in sending order (R71). -/
def frameBytesFrom (w : FrameWord) (i : Nat) : List Byte :=
  (List.range' i (Config.frameLen - i)).map (frameByte w)

theorem frameBytesFrom_of_lt (w : FrameWord) {i : Nat} (h : i < Config.frameLen) :
    frameBytesFrom w i = frameByte w i :: frameBytesFrom w (i + 1) := by
  have len : Config.frameLen - i = Config.frameLen - (i + 1) + 1 := by omega
  rw [frameBytesFrom, len]
  rfl

/-- The six bytes of the effective frame (R71, R73, R111). -/
theorem frameBytesFrom_wireFrame (pfx : Bool) (idx : Index) (arg : Argument) :
    frameBytesFrom (wireFrame pfx idx arg) 0 =
      if pfx then [0x77#8, 0x00#8, 0x00#8, 0x00#8, 0x00#8, 0x01#8]
      else [0x40#8 ||| idx.setWidth 8, arg.extractLsb' 24 8, arg.extractLsb' 16 8, arg.extractLsb' 8 8,
        arg.extractLsb' 0 8, if idx = 0#6 then 0x95#8 else if idx = 8#6 then 0x87#8 else 0x01#8] := by
  cases pfx with
  | true =>
    rw [wireFrame, if_pos rfl, if_pos rfl]
    decide
  | false =>
    obtain ⟨h0, h1, h2, h3, h4, h5⟩ := frameLayout idx arg
    rw [if_neg Bool.false_ne_true, ← h0, ← h1, ← h2, ← h3, ← h4, ← h5]
    rfl

theorem afterFrameByte_of_lt {i : Nat} (h : i + 1 < Config.frameLen) :
    s.afterFrameByte pfx i = s.goto (.frame pfx (i + 1)) :=
  if_pos h

theorem afterFrameByte_last_stop (hidx : s.idx = Config.idxStopTransmission) :
    s.afterFrameByte false 5 = s.goto .stuff := by
  rw [State.afterFrameByte, if_neg (by decide), if_pos ⟨rfl, hidx⟩]

theorem afterFrameByte_last (hidx : s.idx ≠ Config.idxStopTransmission) :
    s.afterFrameByte pfx 5 = ({ s with n := Config.nRespPoll } : State).goto (.response pfx) := by
  rw [State.afterFrameByte, if_neg (by decide), if_neg fun h => hidx h.2]

theorem afterFrameByte_goto (m : Micro) (i : Nat) : (s.goto m).afterFrameByte pfx i = s.afterFrameByte pfx i := rfl

theorem step_frame_scripted {i : Nat} (hs : s.standsAt (.frame pfx i)) (b : Byte) (bytes : List Byte) :
    step (s.scripted (k + 1) (b :: bytes)) =
      .next (((s.exchanged [frameByte (wireFrame pfx s.idx s.arg) i] [b]).scripted k bytes).afterFrameByte pfx i) :=
  step_scripted_of_performs hs.1 (performs_frame (p := s.scripted k (b :: bytes)) hs.2)

/-- The frame from byte `i` on, up to what follows its last byte. -/
theorem runFor_frame (rest replies : List Byte) (hne : replies ≠ []) {i : Nat} (hs : s.standsAt (.frame pfx i))
    (hlen : i + replies.length = Config.frameLen) :
    runFor (replies.length + k) (s.scripted (replies.length + k) (replies ++ rest)) =
      runFor k (((s.exchanged (frameBytesFrom (wireFrame pfx s.idx s.arg) i) replies).scripted k rest).afterFrameByte
        pfx 5) := by
  induction replies generalizing s i with
  | nil => exact absurd rfl hne
  | cons b replies ih =>
    rw [List.length_cons] at hlen
    have first := step_frame_scripted (k := replies.length + k) hs b (replies ++ rest)
    rw [List.length_cons, Nat.succ_add, List.cons_append, runFor_succ_of_next first,
      frameBytesFrom_of_lt _ (by omega), ← exchanged_cons _ b (frameBytesFrom _ (i + 1)) replies]
    cases replies with
    | nil =>
      obtain rfl : i = 5 := Nat.succ.inj hlen
      rw [List.length_nil, Nat.zero_add]
      rfl
    | cons c replies =>
      rw [List.length_cons] at hlen
      have rest_run := ih nofun
        (s := (s.exchanged [frameByte (wireFrame pfx s.idx s.arg) i] [b]).goto (.frame pfx (i + 1))) ⟨hs.1, rfl⟩
        (by rw [List.length_cons]; omega)
      rw [exchanged_goto, scripted_goto, scripted_goto, afterFrameByte_goto] at rest_run
      rw [afterFrameByte_of_lt (by omega)]
      exact rest_run

/-! ### The first primitive -/

theorem step_issue_scripted (hs : s.standsAt .issue)
    (hd : ∃ i, decode (.frame s.app (frameOf s.idx s.arg)) = .ok i) (bytes : List Byte) :
    step (s.scripted (k + 1) bytes) = .next ((s.scripted k bytes).startCommand s.app s.idx s.arg) := by
  obtain ⟨hb, hm⟩ := hs
  obtain ⟨i, hi⟩ := hd
  calc step (s.scripted (k + 1) bytes)
    _ = takeUp (.frame s.app (frameOf s.idx s.arg)) (s.scripted k bytes) :=
      step_scripted_wire _ (wireSignal_issue (s := s.scripted k bytes) hb hm)
    _ = (s.scripted k bytes).sendCommand s.app s.idx s.arg := takeUp_frame_of_ok hi _
    _ = _ := sendCommand_of_standsAt (s := s.scripted k bytes) ⟨hb, hm⟩ _ _ _

/-- The first primitive of a reselection, of a command taken up or of a target after its accepted `CMD55`. -/
theorem step_beginReselection (hidx : s.idx ≠ Config.idxStopTransmission)
    (h : (s.standsAt .issue ∧ pfx = s.app ∧ ∃ i, decode (.frame s.app (frameOf s.idx s.arg)) = .ok i) ∨
      s.standsAt (.deselectLatch (.command pfx))) (bytes : List Byte) :
    step (s.scripted (k + 1) bytes) =
      .next (((s.setCs .deasserted).goto (.deselectDummy (.command pfx))).scripted k bytes) := by
  rcases h with ⟨hs, rfl, hd⟩ | hs
  · rw [step_issue_scripted hs hd, startCommand_reselects _ (.inr hidx)]
    rfl
  · exact step_scripted_of_performs hs.1 (performs_deselectLatch (p := s.scripted k bytes) hs.2)

/-! ### The reselection (R105 to R107) -/

theorem step_deselectDummy_scripted (hb : s.seq.busy = true) (b : Byte) (bytes : List Byte) :
    step ((s.goto (.deselectDummy (.command pfx))).scripted (k + 1) (b :: bytes)) =
      .next (((s.exchanged [Config.fill] [b]).goto (.selectLatch (.command pfx))).scripted k bytes) :=
  step_scripted_of_performs (s := s.goto _) hb (performs_deselectDummy (c := .command pfx) rfl)

theorem step_selectLatch_scripted (hb : s.seq.busy = true) (c : SelectCaller) (bytes : List Byte) :
    step ((s.goto (.selectLatch c)).scripted (k + 1) bytes) =
      .next (((s.setCs .asserted).goto (.selectDummy c)).scripted k bytes) :=
  step_scripted_of_performs (s := s.goto _) hb (performs_selectLatch rfl)

theorem step_selectDummy_scripted (hb : s.seq.busy = true) (c : SelectCaller) (b : Byte) (bytes : List Byte) :
    step ((s.goto (.selectDummy c)).scripted (k + 1) (b :: bytes)) =
      .next (((s.exchanged [Config.fill] [b]).goto (.readyArm (.select c))).scripted k bytes) :=
  step_scripted_of_performs (s := s.goto _) hb (performs_selectDummy rfl)

theorem step_readyArm_scripted (hb : s.seq.busy = true) (c : ReadyCaller) (bytes : List Byte) :
    step ((s.goto (.readyArm c)).scripted (k + 1) bytes) =
      .next (((s.arm2 Config.tReady).goto (.readyPoll c)).scripted k bytes) :=
  step_scripted_of_performs (s := s.goto _) hb ⟨wireSignal_readyArm rfl, primitive_readyArm rfl⟩

theorem step_readyPoll_scripted (hb : s.seq.busy = true) (bytes : List Byte) :
    step ((s.goto (.readyPoll (.select (.command pfx)))).scripted (k + 1) (Config.fill :: bytes)) =
      .next (((s.exchanged [Config.fill] [Config.fill]).goto (.frame pfx 0)).scripted k bytes) :=
  calc step ((s.goto (.readyPoll (.select (.command pfx)))).scripted (k + 1) (Config.fill :: bytes))
    _ = takeUp (.readyByte Config.fill)
          ((s.goto (.readyPoll (.select (.command pfx)))).scripted k (Config.fill :: bytes)) :=
      step_scripted_wire _ (wireSignal_readyPoll hb rfl)
    _ = ((s.goto (.readyPoll (.select (.command pfx)))).scripted k (Config.fill :: bytes)).takeReady :=
      takeUp_readyByte _ _
    _ = _ := takeReady_of_standsAt ⟨hb, rfl⟩

/-- `SELECT` of a card that is ready at once (R106, R107). -/
def State.selected (dummy : Byte) (s : State) : State :=
  (((s.setCs .asserted).exchanged [Config.fill] [dummy]).arm2 Config.tReady).exchanged [Config.fill] [Config.fill]

@[simp] theorem selected_seq (dummy : Byte) : (s.selected dummy).seq = s.seq := rfl
@[simp] theorem selected_idx (dummy : Byte) : (s.selected dummy).idx = s.idx := rfl
@[simp] theorem selected_arg (dummy : Byte) : (s.selected dummy).arg = s.arg := rfl

theorem runFor_waitReady (hb : s.seq.busy = true) (rest : List Byte) :
    runFor (k + 2) ((s.goto (.readyArm (.select (.command pfx)))).scripted (k + 2) (Config.fill :: rest)) =
      runFor k
        ((((s.arm2 Config.tReady).exchanged [Config.fill] [Config.fill]).goto (.frame pfx 0)).scripted k rest) := by
  rw [runFor_succ_of_next (step_readyArm_scripted hb _ _),
    runFor_succ_of_next (step_readyPoll_scripted (s := s.arm2 Config.tReady) hb _)]

theorem runFor_select (hb : s.seq.busy = true) (dummy : Byte) (rest : List Byte) :
    runFor (k + 4) ((s.goto (.selectLatch (.command pfx))).scripted (k + 4) (dummy :: Config.fill :: rest)) =
      runFor k (((s.selected dummy).goto (.frame pfx 0)).scripted k rest) := by
  rw [runFor_succ_of_next (step_selectLatch_scripted hb _ _),
    runFor_succ_of_next (step_selectDummy_scripted (s := s.setCs .asserted) hb _ _ _),
    runFor_waitReady (s := (s.setCs .asserted).exchanged [Config.fill] [dummy]) hb]
  rfl

theorem runFor_reselect (hb : s.seq.busy = true) (d0 d1 : Byte) (rest : List Byte) :
    runFor (k + 5)
        ((s.goto (.deselectDummy (.command pfx))).scripted (k + 5) (d0 :: d1 :: Config.fill :: rest)) =
      runFor k ((((s.exchanged [Config.fill] [d0]).selected d1).goto (.frame pfx 0)).scripted k rest) := by
  rw [runFor_succ_of_next (step_deselectDummy_scripted hb d0 _), runFor_select (s := s.exchanged [Config.fill] [d0]) hb]

/-- A whole frame whose index is not that of `CMD12`, up to the response poll. -/
theorem runFor_wholeFrame (hs : s.standsAt (.frame pfx 0)) (hidx : s.idx ≠ Config.idxStopTransmission)
    {frame : List Byte} (hframe : frameBytesFrom (wireFrame pfx s.idx s.arg) 0 = frame) (f0 f1 f2 f3 f4 f5 : Byte) :
    runFor 6 (s.scripted 6 [f0, f1, f2, f3, f4, f5]) =
      .next (({ s.exchanged frame [f0, f1, f2, f3, f4, f5] with
        n := Config.nRespPoll } : State).goto (.response pfx)) := by
  have sent := runFor_frame (k := 0) [] [f0, f1, f2, f3, f4, f5] nofun hs (by simp)
  rw [afterFrameByte_last (s := (s.exchanged _ _).scripted 0 []) hidx, hframe] at sent
  exact sent

/-- What a transaction leaves, up to its response poll. -/
theorem transaction_eq (d0 d1 f0 f1 f2 f3 f4 f5 : Byte) (frame : List Byte) :
    ({ (((s.setCs .deasserted).exchanged [Config.fill] [d0]).selected d1).exchanged frame [f0, f1, f2, f3, f4, f5] with
        n := Config.nRespPoll } : State).goto (.response pfx) =
      { s with
        cs := .asserted, tmr2 := 500#16, n := 10#8, exchanges := s.exchanges + 9
        trace :=
          exchangesOf frame [f0, f1, f2, f3, f4, f5] ++
            .exchange 0xFF#8 0xFF#8 :: .exchange 0xFF#8 d1 :: .chipSelect .asserted :: .exchange 0xFF#8 d0 ::
              .chipSelect .deasserted :: s.trace
        seq := { s.seq with micro := .response pfx } } := by
  simp [State.goto, State.selected, State.exchanged, State.setCs, State.arm2, exchangesOf]

/-- Settles O18: the first primitive, the reselection, then the six bytes of the effective frame. -/
theorem commandTransaction : Obligations.CommandTransaction := by
  intro s pfx d0 d1 f0 f1 f2 f3 f4 f5 hidx hs frame
  have hb : s.seq.busy = true := hs.elim (fun h => h.1.1) (fun h => h.1)
  have bytes : frameBytesFrom (wireFrame pfx s.idx s.arg) 0 = frame := frameBytesFrom_wireFrame pfx s.idx s.arg
  have first := step_beginReselection (k := 11) hidx hs [d0, d1, Config.fill, f0, f1, f2, f3, f4, f5]
  have reselection := runFor_reselect (k := 6) (s := s.setCs .deasserted) (pfx := pfx) hb d0 d1 [f0, f1, f2, f3, f4, f5]
  have sent := runFor_wholeFrame
    (s := (((s.setCs .deasserted).exchanged [Config.fill] [d0]).selected d1).goto (.frame pfx 0)) (pfx := pfx)
    (by simpa [State.standsAt] using hb) (by simpa using hidx) (by simpa using bytes) f0 f1 f2 f3 f4 f5
  calc runFor 12 (s.scripted 12 [d0, d1, Config.fill, f0, f1, f2, f3, f4, f5])
    _ = runFor 11 (((s.setCs .deasserted).goto (.deselectDummy (.command pfx))).scripted 11
          [d0, d1, Config.fill, f0, f1, f2, f3, f4, f5]) := runFor_succ_of_next first
    _ = runFor 6 (((((s.setCs .deasserted).exchanged [Config.fill] [d0]).selected d1).goto (.frame pfx 0)).scripted 6
          [f0, f1, f2, f3, f4, f5]) := reselection
    _ = .next (({ (((s.setCs .deasserted).exchanged [Config.fill] [d0]).selected d1).exchanged
          frame [f0, f1, f2, f3, f4, f5] with n := Config.nRespPoll } : State).goto (.response pfx)) := sent
    _ = _ := congrArg Host.Outcome.next (transaction_eq d0 d1 f0 f1 f2 f3 f4 f5 frame)

/-! ### `CMD12` (R114) -/

theorem step_stuff_scripted (hb : s.seq.busy = true) (b : Byte) (bytes : List Byte) :
    step ((s.goto .stuff).scripted (k + 1) (b :: bytes)) =
      .next ((({ s.exchanged [Config.fill] [b] with n := Config.nRespPoll } : State).goto (.response false)).scripted k
        bytes) :=
  step_scripted_of_performs (s := s.goto .stuff) hb (performs_stuff rfl)

/-- The frame of `CMD12` after its first byte, and the stuff exchange. -/
theorem runFor_stopFrame (hs : s.standsAt (.frame false 1)) (hidx : s.idx = Config.idxStopTransmission)
    (harg : s.arg = 0#32) (f1 f2 f3 f4 f5 stuff : Byte) :
    runFor 6 (s.scripted 6 [f1, f2, f3, f4, f5, stuff]) =
      .next (({ s.exchanged [0x00#8, 0x00#8, 0x00#8, 0x00#8, 0x01#8, Config.fill] [f1, f2, f3, f4, f5, stuff] with
        n := Config.nRespPoll } : State).goto (.response false)) := by
  have bytes : frameBytesFrom (wireFrame false s.idx s.arg) 1 = [0x00#8, 0x00#8, 0x00#8, 0x00#8, 0x01#8] := by
    rw [hidx, harg]
    decide
  have sent := runFor_frame (k := 1) [stuff] [f1, f2, f3, f4, f5] nofun hs (by simp)
  have stuffed := step_stuff_scripted (k := 0)
    (s := s.exchanged [0x00#8, 0x00#8, 0x00#8, 0x00#8, 0x01#8] [f1, f2, f3, f4, f5]) (by simpa using hs.1) stuff []
  rw [afterFrameByte_last_stop (s := (s.exchanged _ _).scripted 1 [stuff]) hidx, bytes, ← scripted_goto] at sent
  calc runFor 6 (s.scripted 6 [f1, f2, f3, f4, f5, stuff])
    _ = runFor 1 (((s.exchanged [0x00#8, 0x00#8, 0x00#8, 0x00#8, 0x01#8] [f1, f2, f3, f4, f5]).goto .stuff).scripted 1
          [stuff]) := sent
    _ = .next (({ s.exchanged [0x00#8, 0x00#8, 0x00#8, 0x00#8, 0x01#8, Config.fill] [f1, f2, f3, f4, f5, stuff] with
          n := Config.nRespPoll } : State).goto (.response false)) := by
      rw [runFor_succ_of_next stuffed, runFor_zero, scripted_zero_nil,
        exchanged_exchanged [0x00#8, 0x00#8, 0x00#8, 0x00#8, 0x01#8] [f1, f2, f3, f4, f5] _ _ rfl]
      rfl

theorem step_issue_stop (hs : s.standsAt .issue) (happ : s.app = false) (hidx : s.idx = Config.idxStopTransmission)
    (harg : s.arg = 0#32) (b : Byte) (bytes : List Byte) :
    step (s.scripted (k + 1) (b :: bytes)) =
      .next (((s.exchanged [0x4C#8] [b]).goto (.frame false 1)).scripted k bytes) := by
  have descriptor : s.describe false Config.idxStopTransmission 0#32 = s := by rw [← harg, ← hidx, ← happ]; rfl
  rw [step_issue_scripted hs (by rw [happ, hidx, harg]; exact ⟨.cmd12, rfl⟩), happ, hidx, harg, startCommand_stop]
  exact congrArg (fun u => Host.Outcome.next (((u.exchanged [0x4C#8] [b]).goto (.frame false 1)).scripted k bytes))
    descriptor

theorem exec_cmd12 (hs : s.standsAt .issue) :
    exec .cmd12 s =
      .next (((s.describe false Config.idxStopTransmission 0#32).send 0x4C#8).goto (.frame false 1)) :=
  (sendCommand_of_standsAt hs _ _ _).trans (congrArg Host.Outcome.next (startCommand_stop _))

/-- Settles O17: the first byte of the frame, the other five, then the stuff exchange. -/
theorem stopCommandBegins : Obligations.StopCommandBegins := by
  refine fun s hs => ⟨exec_cmd12 hs, fun f0 f1 f2 f3 f4 f5 stuff happ hidx harg => ?_⟩
  have first := step_issue_stop (k := 6) hs happ hidx harg f0 [f1, f2, f3, f4, f5, stuff]
  have rest := runFor_stopFrame (s := (s.exchanged [0x4C#8] [f0]).goto (.frame false 1))
    (by simpa [State.standsAt] using hs.1) (by simpa using hidx) (by simpa using harg) f1 f2 f3 f4 f5 stuff
  rw [exchanged_goto, exchanged_cons] at rest
  exact (runFor_succ_of_next first).trans rest

end Sys2Proof.Machine
end

section
/-! PROOFS. What the return of `SENDCMD` to its operation depends on, and what it leaves (R111, R131). -/

namespace Sys2Proof.Machine

variable {s : State}

/-! ### The place of the response poll does not matter to the operation -/

theorem operationReturn_goto (m : Micro) (r : Byte) : (s.goto m).operationReturn r = s.operationReturn r := rfl

theorem commandReturn_accepted {r : Byte} (h : passesPrefix r = true) :
    s.commandReturn true r = ({ s with resp := r } : State).goto (.deselectLatch (.command false)) :=
  if_pos h

theorem commandReturn_of_not_accepted {pfx : Bool} {r : Byte} (h : pfx = true → passesPrefix r = false) :
    s.commandReturn pfx r = ({ s with resp := r } : State).operationReturn r :=
  if_neg fun ha => by
    obtain ⟨hpfx, hr⟩ := Bool.and_eq_true_iff.mp ha
    exact Bool.false_ne_true ((h hpfx).symm.trans hr)

theorem commandReturn_target (r : Byte) :
    s.commandReturn false r = ({ s with resp := r } : State).operationReturn r :=
  commandReturn_of_not_accepted nofun

/-! ### The response poll is left -/

/-- `SENDCMD` is over: control has left its response poll, and `RESP` and `N` hold what the poll left. -/
structure LeavesPoll (s t : State) : Prop where
  resp : t.resp = s.resp
  n : t.n = s.n
  place : ∀ pfx, t.seq.micro ≠ .response pfx

theorem leavesPoll_failInit : LeavesPoll s s.failInit := by
  unfold State.failInit
  split <;> exact ⟨rfl, rfl, nofun⟩

theorem leavesPoll_initReturn (r : Byte) : LeavesPoll s (s.initReturn r) := by
  unfold State.initReturn
  split
  · split
    · exact ⟨rfl, rfl, nofun⟩
    · exact leavesPoll_failInit
  · split <;> exact ⟨rfl, rfl, nofun⟩
  · split
    · split <;> exact ⟨rfl, rfl, nofun⟩
    · split
      · exact ⟨rfl, rfl, nofun⟩
      · exact leavesPoll_failInit
  · split
    · split <;> exact ⟨rfl, rfl, nofun⟩
    · exact ⟨rfl, rfl, nofun⟩
  · split
    · exact ⟨rfl, rfl, nofun⟩
    · exact leavesPoll_failInit
  · exact ⟨rfl, rfl, nofun⟩
  · exact ⟨rfl, rfl, nofun⟩

theorem leavesPoll_readReturn (r : Byte) : LeavesPoll s (s.readReturn r) := by
  unfold State.readReturn
  split
  · exact ⟨rfl, rfl, nofun⟩
  · split <;> exact ⟨rfl, rfl, nofun⟩

theorem leavesPoll_writeReturn (count r : Byte) : LeavesPoll s (s.writeReturn count r) := by
  unfold State.writeReturn
  split
  · exact ⟨rfl, rfl, nofun⟩
  · split <;> exact ⟨rfl, rfl, nofun⟩

theorem leavesPoll_queryReturn (code r : Byte) : LeavesPoll s (s.queryReturn code r) := by
  unfold State.queryReturn
  split_ifs <;> exact ⟨rfl, rfl, nofun⟩

theorem leavesPoll_operationReturn (r : Byte) : LeavesPoll s (s.operationReturn r) := by
  unfold State.operationReturn
  split
  · exact leavesPoll_initReturn r
  · exact leavesPoll_readReturn r
  · exact leavesPoll_writeReturn _ r
  · exact leavesPoll_queryReturn _ r
  · exact ⟨rfl, rfl, nofun⟩

theorem leavesPoll_commandReturn (pfx : Bool) (r : Byte) :
    LeavesPoll { s with resp := r } (s.commandReturn pfx r) := by
  unfold State.commandReturn
  split
  · exact ⟨rfl, rfl, nofun⟩
  · exact leavesPoll_operationReturn r

end Sys2Proof.Machine
end

section
/-! PROOFS. O19: the response poll. -/

namespace Sys2Proof.Machine

variable {s : State} {k : Nat} {pfx : Bool}

/-! ### One exchange of the poll -/

theorem validResponse_eq (b : Byte) : validResponse b = !b.getLsbD 7 := by
  revert b
  decide

theorem takeResponse_of_standsAt (hs : s.standsAt (.response pfx)) (b : Byte) :
    s.takeResponse b = .next ((s.pollExchange b).commandReturn pfx b) := by
  obtain ⟨hb, hm⟩ := hs
  simp only [State.takeResponse, hm, if_pos hb]

theorem missResponse_last (hs : s.standsAt (.response pfx)) (hn : s.n = 1#8) (b : Byte) :
    s.missResponse b = .next ((s.pollExchange b).commandReturn pfx b) := by
  simp only [State.missResponse, hs.2]
  exact if_pos (by rw [hn]; rfl)

theorem missResponse_again (hs : s.standsAt (.response pfx)) (hn : s.n ≠ 1#8) (b : Byte) :
    s.missResponse b = .next (s.pollExchange b) := by
  simp only [State.missResponse, hs.2]
  exact if_neg fun h => hn (sub_eq_zero.mp h)

/-- The poll ends with a valid byte, and with any byte that is the last of the ten (R113). -/
theorem step_response_ends (he : s.nextEvent = .foreground) (hs : s.standsAt (.response pfx))
    (h : s.reply.getLsbD 7 = false ∨ s.n = 1#8) :
    step s = .next ((s.popEvent.pollExchange s.reply).commandReturn pfx s.reply) := by
  have hp := standsAt_popEvent hs
  rw [step_foreground_wire he (wireSignal_response hp.1 hp.2), takeUp_response, State.popEvent_reply]
  split
  · exact takeResponse_of_standsAt hp _
  next hv =>
    have hn : s.n = 1#8 := h.resolve_left fun hlow => hv (by rw [validResponse_eq, hlow]; rfl)
    exact missResponse_last hp (by rwa [State.popEvent_n]) _

theorem step_response_again (he : s.nextEvent = .foreground) (hs : s.standsAt (.response pfx))
    (hr : s.reply.getLsbD 7 = true) (hn : s.n ≠ 1#8) : step s = .next (s.popEvent.pollExchange s.reply) := by
  have hp := standsAt_popEvent hs
  rw [step_foreground_wire he (wireSignal_response hp.1 hp.2), takeUp_response, State.popEvent_reply,
    if_neg (by simp [validResponse_eq, hr]), missResponse_again hp (by rwa [State.popEvent_n])]

/-! ### The run of the poll -/

/-- The response poll exchanged the fill byte for each of these replies. -/
def State.polled (bytes : List Byte) (s : State) : State :=
  { s.heard bytes with n := s.n - BitVec.ofNat 8 bytes.length }

@[simp] theorem polled_seq (bytes : List Byte) : (s.polled bytes).seq = s.seq := rfl

theorem step_response_ends_scripted (hs : s.standsAt (.response pfx)) {b : Byte} (bytes : List Byte)
    (h : b.getLsbD 7 = false ∨ s.n = 1#8) :
    step (s.scripted (k + 1) (b :: bytes)) = .next (((s.polled [b]).scripted k bytes).commandReturn pfx b) :=
  step_response_ends rfl hs h

theorem step_response_again_scripted (hs : s.standsAt (.response pfx)) {b : Byte} (bytes : List Byte)
    (hb : b.getLsbD 7 = true) (hn : s.n ≠ 1#8) :
    step (s.scripted (k + 1) (b :: bytes)) = .next ((s.polled [b]).scripted k bytes) :=
  step_response_again rfl hs hb hn

theorem polled_polled (first next : List Byte) : (s.polled first).polled next = s.polled (first ++ next) := by
  have count : s.n - BitVec.ofNat 8 first.length - BitVec.ofNat 8 next.length =
      s.n - BitVec.ofNat 8 (first ++ next).length := by
    rw [List.length_append, BitVec.ofNat_add, sub_sub]
  simp only [State.polled, ← count, ← heard_heard]
  rfl

theorem polled_nil : s.polled [] = s := by
  simp [State.polled, State.heard]

/-- While bytes with bit 7 set come and `N` allows, the poll goes on. -/
theorem runFor_missed (rest : List Byte) {missed : List Byte} (hs : s.standsAt (.response pfx))
    (hmissed : ∀ b ∈ missed, b.getLsbD 7 = true) (hn : missed.length < s.n.toNat) :
    runFor (missed.length + k) (s.scripted (missed.length + k) (missed ++ rest)) =
      runFor k ((s.polled missed).scripted k rest) := by
  induction missed generalizing s with
  | nil => rw [List.length_nil, Nat.zero_add, polled_nil]; rfl
  | cons b missed ih =>
    obtain ⟨hb, hmissed⟩ := List.forall_mem_cons.mp hmissed
    rw [List.length_cons] at hn
    have more : s.n ≠ 1#8 := by rintro h; rw [h] at hn; simp at hn
    have first := step_response_again_scripted (k := missed.length + k) hs (missed ++ rest) hb more
    have left : missed.length < (s.polled [b]).n.toNat := by
      change missed.length < (s.n - 1#8).toNat
      bv_omega
    rw [List.length_cons, Nat.succ_add, List.cons_append, runFor_succ_of_next first,
      ih (s := s.polled [b]) (by simpa [State.standsAt] using hs) hmissed left, polled_polled]
    rfl

/-- The poll ends after the missed bytes and one last byte, and `SENDCMD` returns that byte. -/
theorem runFor_poll {missed : List Byte} {last : Byte} (hs : s.standsAt (.response pfx)) (hn : s.n = 10#8)
    (hmissed : ∀ b ∈ missed, b.getLsbD 7 = true)
    (hlast : missed.length < 9 ∧ last.getLsbD 7 = false ∨ missed.length = 9) :
    runFor (missed.length + 1) (s.scripted (missed.length + 1) (missed ++ [last])) =
      .next ((s.polled (missed ++ [last])).commandReturn pfx last) := by
  have few : missed.length < s.n.toNat := by rw [hn]; change _ < 10; omega
  have ends : last.getLsbD 7 = false ∨ (s.polled missed).n = 1#8 :=
    hlast.imp And.right fun h => by rw [State.polled, h, hn]; rfl
  have final := step_response_ends_scripted (k := 0) (s := s.polled missed) (by simpa [State.standsAt] using hs) []
    ends
  rw [runFor_missed [last] hs hmissed few, runFor_succ_of_next final, polled_polled, scripted_zero_nil, runFor_zero]

/-- Settles O19: the run of the poll, then a return that is control flow inside the operation. -/
theorem responsePollBounded : Obligations.ResponsePollBounded := by
  intro s pfx missed last hs hn hmissed hlast
  have control : ControlOnly (s.polled (missed ++ [last])) _ := masked_commandReturn _ pfx last
  have left := leavesPoll_commandReturn (s := s.polled (missed ++ [last])) pfx last
  have inside := continues_commandReturn (s.polled (missed ++ [last])) pfx last
  have length : (missed ++ [last]).length = missed.length + 1 := List.length_append
  refine ⟨_, runFor_poll hs hn hmissed hlast, left.resp, ?n, ?trace, left.place, control.stat, control.ct,
    control.tmr1, control.tmr2, control.cs, control.clk, control.pwr, control.scr, control.buffers, control.card, ?busy⟩
  case n => rw [left.n, ← length, ← hn]; rfl
  case trace => rw [control.trace, ← length, exchangesOf_replicate]; rfl
  case busy => rw [inside.busy]; exact hs.1

end Sys2Proof.Machine
end

section
/-! PROOFS. O20, O21: what a response means to an app-command's `CMD55`, and to `READ`, `WRITE` and `IOCTL`. -/

namespace Sys2Proof.Machine

variable {s u : State} {pfx : Bool}

/-! ### A valid response -/

theorem exec_r1Valid (hs : s.standsAt (.response pfx)) (r : BitVec 7) :
    exec (.r1Valid r) s = .next ((s.pollExchange (0#1 ++ r)).commandReturn pfx (0#1 ++ r)) :=
  takeResponse_of_standsAt hs (responseByte r)

theorem responded_goto (m : Micro) (b : Byte) : (s.goto m).responded b = (s.responded b).goto m := rfl

theorem exec_r1Valid_target (hs : s.standsAt (.response false)) (r : BitVec 7) :
    exec (.r1Valid r) s = .next ((s.responded (0#1 ++ r)).operationReturn (0#1 ++ r)) := by
  rw [exec_r1Valid hs, commandReturn_target]
  rfl

theorem passesPrefix_response (r : BitVec 7) : passesPrefix (0#1 ++ r) = decide (r.toNat ≤ 1) := by
  revert r
  decide

theorem response_eq_zero_iff (r : BitVec 7) : (0#1 ++ r : Byte) = 0#8 ↔ r = 0#7 := by
  revert r
  decide

/-! ### No valid response -/

theorem popEvent_goto (m : Micro) : (s.goto m).popEvent = s.popEvent.goto m := by
  cases ha : s.agenda <;> simp [State.popEvent, State.goto, ha]

theorem not_passesPrefix_of_high {r : Byte} (h : r.getLsbD 7 = true) : passesPrefix r = false := by
  revert r
  decide

theorem ne_zero_of_high {r : Byte} (h : r.getLsbD 7 = true) : r ≠ 0#8 := by
  rintro rfl
  cases h

theorem State.endsInvalid.resp_high (h : s.endsInvalid pfx u) : u.resp.getLsbD 7 = true := by
  obtain ⟨-, ⟨-, -, hr, rfl⟩ | ⟨-, rfl⟩⟩ := h
  · exact hr
  · exact (by decide : (0xFF#8 : Byte).getLsbD 7 = true)

theorem State.endsInvalid.seq (h : s.endsInvalid pfx u) : u.seq = s.seq := by
  obtain ⟨-, ⟨-, -, -, rfl⟩ | ⟨-, rfl⟩⟩ := h <;> exact State.popEvent_seq s

/-- Without a valid response `SENDCMD` returns the byte in `RESP` to the operation, from a `CMD55` too (R111 to
R113). -/
theorem step_endsInvalid (h : s.endsInvalid pfx u) : step s = .next (u.operationReturn u.resp) := by
  obtain ⟨he, ⟨hs, hn, hr, rfl⟩ | ⟨hs, rfl⟩⟩ := h
  · rw [step_response_ends he hs (.inr hn), commandReturn_of_not_accepted fun _ => not_passesPrefix_of_high hr]
    rfl
  · rw [step_of_performs he hs.1 (performs_deselectDummy (standsAt_popEvent hs).2)]
    change Host.Outcome.next ((s.popEvent.send Config.fill).commandReturn pfx 0xFF#8) = _
    rw [commandReturn_of_not_accepted fun _ => rfl, State.send_eq, State.popEvent_reply]

/-- The tenth invalid byte of a `CMD55`'s poll, seen at the poll of the target. -/
theorem State.endsInvalid.response_goto (h : s.endsInvalid true u) (hs : s.standsAt (.response true)) :
    (s.goto (.response false)).endsInvalid false (u.goto (.response false)) := by
  obtain ⟨he, ⟨-, hn, hr, rfl⟩ | ⟨hd, -⟩⟩ := h
  · exact ⟨he, .inl ⟨⟨hs.1, rfl⟩, hn, hr, by rw [popEvent_goto]; rfl⟩⟩
  · exact nomatch hs.2.symm.trans hd.2

/-- The failed `SELECT` of a `CMD55`, seen at that of the target. -/
theorem State.endsInvalid.selectFailed_goto (h : s.endsInvalid true u)
    (hs : s.standsAt (.deselectDummy (.selectFailed (.command true)))) :
    (s.goto (.deselectDummy (.selectFailed (.command false)))).endsInvalid false
      (u.goto (.deselectDummy (.selectFailed (.command false)))) := by
  obtain ⟨he, ⟨hd, -⟩ | ⟨-, rfl⟩⟩ := h
  · exact nomatch hs.2.symm.trans hd.2
  · exact ⟨he, .inr ⟨⟨hs.1, rfl⟩, by rw [popEvent_goto]; rfl⟩⟩

/-- Settles O20: the return of the `CMD55` is that of the target, but for a response of 0 or 1. -/
theorem prefixDecides : Obligations.PrefixDecides := by
  refine fun s => ⟨fun r hs => ?valid, fun u h => ⟨fun hs => ?poll, fun hs => ?select⟩⟩
  case valid =>
    have target := exec_r1Valid_target (s := s.goto (.response false)) ⟨hs.1, rfl⟩ r
    rw [responded_goto, operationReturn_goto] at target
    rw [exec_r1Valid hs]
    split
    next hr =>
      rw [commandReturn_accepted (by rw [passesPrefix_response, decide_eq_true hr])]
      rfl
    next hr =>
      rw [target, commandReturn_of_not_accepted fun _ => by rw [passesPrefix_response, decide_eq_false hr]]
      rfl
  case poll =>
    rw [step_endsInvalid h, step_endsInvalid (h.response_goto hs), operationReturn_goto, State.goto_resp]
  case select =>
    rw [step_endsInvalid h, step_endsInvalid (h.selectFailed_goto hs), operationReturn_goto, State.goto_resp]

/-! ### What an operation does with the byte that `SENDCMD` returned (R131) -/

section Caller

variable {p count code : Byte} {sector : Sector} {h : Nat}

theorem isSd2_eq (ct : Byte) : isSd2 ct = ct.getLsbD 2 := by
  revert ct
  decide

theorem readReturn_eq (r : Byte) :
    s.readReturn r = s.goto (if s.seq.site ≠ .stop ∧ r = 0#8 then .tokenArm else .deselectLatch .exit) := by
  unfold State.readReturn
  cases hsite : s.seq.site with
  | stop =>
    simp only [ne_eq, not_true_eq_false, false_and, if_false]
    rfl
  | main | poll | hint =>
    simp only [ne_eq, reduceCtorEq, not_false_eq_true, true_and]
    exact (apply_ite (fun m => s.goto m) _ _ _).symm

theorem writeReturn_hint (count r : Byte) (hsite : s.seq.site = .hint) :
    s.writeReturn count r = s.call .main false Config.idxWriteMultiple s.seq.addr := by
  simp only [State.writeReturn, hsite]

theorem writeReturn_of_ne_hint (count r : Byte) (hsite : s.seq.site ≠ .hint) :
    s.writeReturn count r =
      s.goto (if r = 0#8 then .readyArm (.block (if count = 1#8 then .startBlock else .multiWrite))
        else .deselectLatch .exit) := by
  unfold State.writeReturn
  cases hs : s.seq.site with
  | hint => exact absurd hs hsite
  | main | poll | stop => exact (apply_ite (fun m => s.goto m) _ _ _).symm

theorem queryReturn_eq (code r : Byte) :
    s.queryReturn code r =
      s.goto (if r ≠ 0#8 then .deselectLatch .exit
        else if code = 6#8 then .rawIn 0
        else if code = 7#8 ∨ code = 2#8 ∧ s.ct.getLsbD 2 = true then .discard
        else .tokenArm) := by
  rw [State.queryReturn, isSd2_eq]
  by_cases hr : r = 0#8
  · rw [if_pos hr, if_neg (not_not.mpr hr)]
    by_cases hocr : code = 6#8
    · rw [if_pos hocr, if_pos hocr]
    · rw [if_neg hocr, if_neg hocr]
      by_cases hstat : code = 7#8
      · rw [if_pos hstat, if_pos (.inl hstat)]
      · rw [if_neg hstat, apply_ite (fun m => s.goto m)]
        simp only [hstat, false_or]
  · rw [if_neg hr, if_pos hr]
    rfl

theorem operationReturn_read (hop : s.seq.op = .read p sector count h) (r : Byte) :
    s.operationReturn r = s.readReturn r := by
  simp only [State.operationReturn, hop]

theorem operationReturn_write (hop : s.seq.op = .write p sector count h) (r : Byte) :
    s.operationReturn r = s.writeReturn count r := by
  simp only [State.operationReturn, hop]

theorem operationReturn_ioctl (hop : s.seq.op = .ioctl p code h) (r : Byte) :
    s.operationReturn r = s.queryReturn code r := by
  simp only [State.operationReturn, hop]

end Caller

/-- Settles O21: the byte that `SENDCMD` returned, and the branch of its caller. -/
theorem transferResponses : Obligations.TransferResponses := by
  refine fun s => ⟨fun r hs => ⟨?read, ?write, ?hint, ?ioctl⟩,
    fun u h => ⟨?readInvalid, ?writeInvalid, ?ioctlInvalid⟩⟩
  case read =>
    intro p sector count b hop
    rw [exec_r1Valid_target hs, operationReturn_read (s := s.responded _) hop, readReturn_eq]
    simp only [response_eq_zero_iff]
    rfl
  case write =>
    intro p sector count b hop hsite
    rw [exec_r1Valid_target hs, operationReturn_write (s := s.responded _) hop,
      writeReturn_of_ne_hint (s := s.responded _) _ _ hsite]
    simp only [response_eq_zero_iff]
  case hint =>
    intro p sector count b hop hsite
    rw [exec_r1Valid_target hs, operationReturn_write (s := s.responded _) hop,
      writeReturn_hint (s := s.responded _) _ _ hsite]
    rfl
  case ioctl =>
    intro p code b hop
    rw [exec_r1Valid_target hs, operationReturn_ioctl (s := s.responded _) hop, queryReturn_eq]
    simp only [ne_eq, response_eq_zero_iff]
    rfl
  all_goals
    have invalid := ne_zero_of_high h.resp_high
    rw [step_endsInvalid h, ← h.seq]
  case readInvalid =>
    intro p sector count b hop
    rw [operationReturn_read hop, readReturn_eq, if_neg fun hc => invalid hc.2]
  case writeInvalid =>
    intro p sector count b hop
    rw [operationReturn_write hop]
    split
    next hsite => rw [writeReturn_hint _ _ hsite]; rfl
    next hsite => rw [writeReturn_of_ne_hint _ _ hsite, if_neg invalid]
  case ioctlInvalid =>
    intro p code b hop
    rw [operationReturn_ioctl hop, queryReturn_eq, if_pos invalid]

end Sys2Proof.Machine
end

section
/-! PROOFS. O25: the token wait, and what its caller does with a block that failed. -/

namespace Sys2Proof.Machine

variable {s u : State}

/-! ### The primitives of the wait -/

theorem performs_discard (hm : s.seq.micro = .discard) : s.Performs ((s.send Config.fill).goto .tokenArm) := by
  simp only [State.Performs, State.wireSignal, State.primitive, hm, ite_self, and_self]

theorem performs_tokenArm (hm : s.seq.micro = .tokenArm) : s.Performs ((s.arm1 Config.tToken).goto .tokenPoll) := by
  simp only [State.Performs, State.wireSignal, State.primitive, hm, ite_self, and_self]

theorem performs_tokenTest (hm : s.seq.micro = .tokenTest) :
    s.Performs (if s.tmr1 = 0#16 then s.blockInReturn false else s.goto .tokenPoll) := by
  simp only [State.Performs, State.wireSignal, State.primitive, hm, ite_self, true_and]
  exact (apply_ite Host.Outcome.next _ _ _).symm

/-! ### The steps of the wait -/

theorem step_tokenTest (he : s.nextEvent = .foreground) (hs : s.standsAt .tokenTest) :
    step s = .next (if s.tmr1 = 0#16 then s.popEvent.blockInReturn false else s.popEvent.goto .tokenPoll) := by
  rw [step_of_performs he hs.1 (performs_tokenTest (standsAt_popEvent hs).2), State.popEvent_tmr1]

/-- A byte that is no start token keeps waiting if it is `0xFF`, and fails the block if not (R86, R140). -/
theorem step_tokenPoll_missed (he : s.nextEvent = .foreground) (hs : s.standsAt .tokenPoll)
    (hr : s.reply ≠ 0xFE#8) : step s = s.popEvent.missStartToken s.reply := by
  obtain ⟨hb, hm⟩ := standsAt_popEvent hs
  rw [step_foreground_wire he (wireSignal_tokenPoll hb hm), takeUp_startToken, State.popEvent_reply, if_neg hr]

theorem missStartToken_fill : s.missStartToken 0xFF#8 = .next ((s.exchange 0xFF#8 0xFF#8).goto .tokenTest) :=
  if_pos rfl

theorem missStartToken_other {b : Byte} (h : b ≠ 0xFF#8) :
    s.missStartToken b = .next ((s.exchange 0xFF#8 b).blockInReturn false) :=
  if_neg h

/-! ### The failed block -/

/-- The foreground's next move fails the block: the counter is tested and has expired, or the byte that came is neither
the start token nor `0xFF`. `u` is the state the block's caller goes on from. -/
def State.failsBlock (s u : State) : Prop :=
  s.standsAt .tokenTest ∧ s.tmr1 = 0#16 ∧ u = s.popEvent ∨
    s.standsAt .tokenPoll ∧ s.reply ≠ 0xFF#8 ∧ s.reply ≠ 0xFE#8 ∧ u = s.popEvent.exchange 0xFF#8 s.reply

theorem State.failsBlock.seq (h : s.failsBlock u) : u.seq = s.seq := by
  obtain ⟨-, -, rfl⟩ | ⟨-, -, -, rfl⟩ := h <;> exact State.popEvent_seq s

theorem step_failsBlock (he : s.nextEvent = .foreground) (h : s.failsBlock u) :
    step s = .next (u.blockInReturn false) := by
  obtain ⟨hs, ht, rfl⟩ | ⟨hs, hfill, htoken, rfl⟩ := h
  · rw [step_tokenTest he hs, if_pos ht]
  · rw [step_tokenPoll_missed he hs htoken, missStartToken_other hfill]

section Caller

variable {p count code : Byte} {sector : Sector} {h : Nat}

theorem blockInReturn_read_single_failed (hop : s.seq.op = .read p sector count h) (hc : count = 1#8) :
    s.blockInReturn false = s.close := by
  rw [blockInReturn_read hop, State.readBlock, if_pos hc, if_neg Bool.false_ne_true]

theorem blockInReturn_read_multiple_failed (hop : s.seq.op = .read p sector count h) (hc : count ≠ 1#8) :
    s.blockInReturn false = s.stopRead := by
  rw [blockInReturn_read hop, State.readBlock, if_neg hc, if_neg Bool.false_ne_true]

theorem blockInReturn_ioctl_failed (hop : s.seq.op = .ioctl p code h) : s.blockInReturn false = s.close := by
  simp only [State.blockInReturn, hop]
  exact if_neg Bool.false_ne_true

end Caller

/-- Settles O25: the step at each place of the wait, and for a failed block the caller's branch. -/
theorem tokenWait : Obligations.TokenWait := by
  refine fun s => ⟨takeStartToken_of_standsAt, fun he =>
    ⟨fun hs => ?discard, fun hs => ?arm, fun hs hr => ?fill, fun hs ht => ?running, fun u hu => ?failed⟩⟩
  case discard =>
    rw [step_of_performs he hs.1 (performs_discard (standsAt_popEvent hs).2), State.send_eq, State.popEvent_reply]
  case arm => exact step_of_performs he hs.1 (performs_tokenArm (standsAt_popEvent hs).2)
  case fill => rw [step_tokenPoll_missed he hs (by rw [hr]; decide), hr, missStartToken_fill]
  case running => rw [step_tokenTest he hs, if_neg ht]
  case failed =>
    replace hu : s.failsBlock u := hu
    rw [step_failsBlock he hu, ← hu.seq]
    refine ⟨fun p sector count h hop hc => ?single, fun p sector count h hop hc => ?multiple,
      fun p code h hop => ?ioctl⟩
    case single => rw [blockInReturn_read_single_failed hop hc]; rfl
    case multiple => rw [blockInReturn_read_multiple_failed hop hc]; rfl
    case ioctl => rw [blockInReturn_ioctl_failed hop]; rfl

end Sys2Proof.Machine
end

section
/-! PROOFS. O27, O28: the tokens that `SENDBLOCK` sends, and the bytes that follow a data token. -/

namespace Sys2Proof.Machine

variable {s : State} {k : TxToken} {i j : Nat}

/-! ### The tokens -/

theorem sendToken_data (hs : s.standsAt (.token k)) (hk : k ≠ .stopTran) :
    s.sendToken k = .next ((s.send k.byte).goto (.payloadOut k 0)) := by
  obtain ⟨hb, hm⟩ := hs
  cases k with
  | stopTran => exact absurd rfl hk
  | startBlock | multiWrite => exact if_pos (by simp [hb, hm])

theorem sendToken_stopTran (hs : s.standsAt (.token .stopTran)) :
    s.sendToken .stopTran = .next ((s.send TxToken.stopTran.byte).blockOutReturn .stopTran true) := by
  obtain ⟨hb, hm⟩ := hs
  exact if_pos (by simp [hb, hm])

/-- Settles O27: the exchange of each token; after the stop token `SENDBLOCK` returns to `WRITE`, which closes. -/
theorem tokensSent : Obligations.TokensSent := by
  refine fun s => ⟨fun hs => sendToken_data hs nofun, fun hs => sendToken_data hs nofun,
    fun p sector count h hs hop => ?_⟩
  change s.sendToken .stopTran = _
  rw [sendToken_stopTran hs, blockOutReturn_write (s := s.send _) hop]
  rfl

/-! ### The exchanges after a data token -/

/-- Where `SENDBLOCK` stands after `i` of the 514 exchanges that follow a data token (R141). -/
def TxToken.blockPlace (k : TxToken) (i : Nat) : Micro :=
  if i < 512 then .payloadOut k i else if i < 514 then .crcOut k (514 - i) else .dataResponse k

/-- The byte of exchange `i` after a data token: of the sector in the operation's host buffer, then the filler (R79). -/
def State.blockByte (s : State) (i : Nat) : Byte :=
  if i < 512 then s.load s.seq.op.buffer (512 * s.seq.moved + i) else 0xFF#8

theorem performs_payloadOut (hm : s.seq.micro = .payloadOut k i) (hbound : 512 * s.seq.moved + i < 65536) :
    s.Performs ((s.send (s.load s.seq.op.buffer (512 * s.seq.moved + i))).afterPayloadOut k i) := by
  simp only [State.Performs, State.wireSignal, State.primitive, hm, ite_self, true_and]
  exact if_pos hbound

theorem performs_crcOut (hm : s.seq.micro = .crcOut k j) :
    s.Performs ((s.send 0xFF#8).goto (if j ≤ 1 then .dataResponse k else .crcOut k (j - 1))) := by
  simp only [State.Performs, State.wireSignal, State.primitive, hm, ite_self, true_and]
  split <;> rfl

theorem afterPayloadOut_eq (hi : i < 512) : s.afterPayloadOut k i = s.goto (k.blockPlace (i + 1)) := by
  unfold State.afterPayloadOut TxToken.blockPlace
  by_cases more : i + 1 < 512
  · rw [if_pos more, if_pos more]
  · obtain rfl : i = 511 := by omega
    rfl

/-- One exchange after a data token, and the place it leads to. -/
theorem performs_blockPlace (hm : s.seq.micro = k.blockPlace i) (hi : i < 514) (hmoved : s.seq.moved < 128) :
    s.Performs ((s.send (s.blockByte i)).goto (k.blockPlace (i + 1))) := by
  by_cases payload : i < 512
  · rw [State.blockByte, if_pos payload, ← afterPayloadOut_eq payload]
    exact performs_payloadOut (by rw [hm, TxToken.blockPlace, if_pos payload]) (by omega)
  · rw [State.blockByte, if_neg payload]
    obtain rfl | rfl : i = 512 ∨ i = 513 := by omega
    all_goals exact performs_crcOut hm

theorem step_blockPlace_scripted {n : Nat} (hs : s.standsAt (k.blockPlace i)) (hi : i < 514)
    (hmoved : s.seq.moved < 128) (b : Byte) (bytes : List Byte) :
    step (s.scripted (n + 1) (b :: bytes)) =
      .next (((s.exchanged [s.blockByte i] [b]).goto (k.blockPlace (i + 1))).scripted n bytes) :=
  step_scripted_of_performs hs.1 (performs_blockPlace (s := s.scripted n (b :: bytes)) hs.2 hi hmoved)

theorem goto_of_micro {m : Micro} (hm : s.seq.micro = m) : s.goto m = s := by
  subst hm
  rfl

/-- The rest of the block from exchange `i` on: it ends at the data response. -/
theorem runFor_blockPlace {replies : List Byte} (hs : s.standsAt (k.blockPlace i)) (hmoved : s.seq.moved < 128)
    (hlen : i + replies.length = 514) :
    runFor replies.length (s.scripted replies.length replies) =
      .next ((s.exchanged ((List.range' i replies.length).map s.blockByte) replies).goto (.dataResponse k)) := by
  induction replies generalizing s i with
  | nil =>
    obtain rfl : i = 514 := hlen
    rw [← exchanged_goto, goto_of_micro (m := .dataResponse k) hs.2]
    rfl
  | cons b replies ih =>
    rw [List.length_cons] at hlen
    have rest := ih (s := (s.exchanged [s.blockByte i] [b]).goto (k.blockPlace (i + 1))) ⟨hs.1, rfl⟩ hmoved
      (by omega)
    rw [List.length_cons, runFor_succ_of_next (step_blockPlace_scripted hs (by omega) hmoved b replies), rest,
      exchanged_goto, exchanged_cons]
    rfl

/-- The 512 bytes of the sector, then the two filler bytes. -/
theorem map_blockByte (s : State) :
    (List.range' 0 514).map s.blockByte =
      (List.range 512).map (fun i => s.load s.seq.op.buffer (512 * s.seq.moved + i)) ++ [0xFF#8, 0xFF#8] := by
  have payload : (List.range 512).map s.blockByte =
      (List.range 512).map fun i => s.load s.seq.op.buffer (512 * s.seq.moved + i) :=
    List.map_congr_left fun i hi => if_pos (List.mem_range.mp hi)
  rw [← payload, ← List.range_eq_range', List.range_succ, List.range_succ, List.append_assoc, List.map_append]
  rfl

/-- Settles O28: the run of the 514 exchanges, and the bytes they send. -/
theorem blockSent : Obligations.BlockSent := by
  intro s k replies hs hmoved hlen
  have run := runFor_blockPlace (i := 0) (replies := replies) hs hmoved (by omega)
  rw [hlen, map_blockByte, State.exchanged, hlen] at run
  exact run

end Sys2Proof.Machine
end

section
/-! PROOFS. O46, O58: the state of `INITIALIZE` and its type `ty` move together (R150 to R160). -/

namespace Sys2Proof.Machine

/-! ### The phase, the type and the place -/

/-- The places of `INITIALIZE` in state `Reset` (R150, R151). -/
def Micro.opening : Micro → Bool
  | .clockSlow | .powerUp _ | .armNegotiation => true
  | _ => false

/-- The places of the negotiation poll outside its command (R159). -/
def Micro.polling : Micro → Bool
  | .pollTest | .pollExit => true
  | _ => false

/-- A running operation stands at a place of state `Reset`. -/
def Seq.Opening (q : Seq) : Prop := q.busy = true ∧ q.micro.opening = true

/-- The negotiation poll runs. -/
def Seq.Polls (q : Seq) : Prop := q.site = .poll ∨ q.micro.polling = true

/-- The types between which the probe chooses (R155). -/
def IsProbed (ty : Byte) : Prop := ty = Config.ctSd1 ∨ ty = Config.ctMmc

/-- The values of `ty` that a state of `INITIALIZE` allows, wherever `SEQ` stands in it. -/
def Phase.Admits (ty : Byte) : Phase → Prop
  | .done ty' => ty = ty' ∧ legalCardType ty' = true ∧ ty' ≠ Config.ctNone
  | .failed => ty = Config.ctNone
  | .blockLengthSet => IsProbed ty
  | .reset | .interfaceCheck | .v2Negotiate | .v1MmcNegotiate => True

/-- `PhaseCoherent`, said of `SEQ`. -/
structure Seq.Coherent (q : Seq) : Prop where
  typed : q.phase.Admits q.ty
  polling : q.phase = .v1MmcNegotiate → q.Polls → IsProbed q.ty
  opening : q.Opening → q.phase = .reset

theorem Micro.polling_iff {m : Micro} : m.polling = true ↔ m = .pollTest ∨ m = .pollExit := by
  cases m <;> simp [Micro.polling]

theorem Micro.opening_iff {m : Micro} :
    m.opening = true ↔ (m = .clockSlow ∨ ∃ left, m = .powerUp left) ∨ m = .armNegotiation := by
  cases m <;> simp [Micro.opening]

theorem phaseCoherent_iff {s : State} : PhaseCoherent s ↔ s.seq.Coherent := by
  constructor
  · intro ⟨done, failed, blockLength, polling, poweringUp, arming⟩
    refine ⟨?_, fun hv hp => polling hv (hp.imp_right Micro.polling_iff.mp), fun ⟨hb, hm⟩ => ?_⟩
    · cases hph : s.seq.phase with
      | done ty => exact done ty hph
      | failed => exact failed hph
      | blockLengthSet => exact blockLength hph
      | reset | interfaceCheck | v2Negotiate | v1MmcNegotiate => trivial
    · exact (Micro.opening_iff.mp hm).elim (poweringUp hb) (arming hb)
  · intro ⟨typed, polling, opening⟩
    constructor
    · intro ty h; rwa [h] at typed
    · intro h; rwa [h] at typed
    · intro h; rwa [h] at typed
    · exact fun hv hp => polling hv (hp.imp_right Micro.polling_iff.mpr)
    · exact fun hb hm => opening ⟨hb, Micro.opening_iff.mpr (.inl hm)⟩
    · exact fun hb hm => opening ⟨hb, Micro.opening_iff.mpr (.inr hm)⟩

theorem Seq.Coherent.of_reset {q : Seq} (h : q.phase = .reset) : q.Coherent where
  typed := by rw [h]; trivial
  polling hv := nomatch h.symm.trans hv
  opening _ := h

/-! ### The moves of the phase and the type -/

/-- The edges of the transition table (R160), with what each makes of the rest of `SEQ`. -/
inductive Seq.Enters (q : Seq) : Seq → Prop where
  | interfaceCheck (h : q.Opening) : q.Enters { q with phase := .interfaceCheck, site := .main, micro := .issue }
  | v2Negotiate (h : q.phase = .interfaceCheck) : q.Enters { q with phase := .v2Negotiate, micro := .pollTest }
  | v1MmcNegotiate (h : q.phase = .interfaceCheck) :
      q.Enters { q with phase := .v1MmcNegotiate, site := .main, micro := .issue }
  | blockLengthSet (h : q.phase = .v1MmcNegotiate) (hm : q.micro = .pollExit) :
      q.Enters { q with phase := .blockLengthSet, site := .main, micro := .issue }
  | doneV2 (ocr0 : Byte) (h : q.phase = .v2Negotiate) :
      q.Enters { q with phase := .done (sd2Type ocr0), ty := sd2Type ocr0, micro := .commit }
  | doneV1Mmc (h : q.phase = .blockLengthSet) : q.Enters { q with phase := .done q.ty, micro := .commit }
  | failed (hd : ∀ ty, q.phase ≠ .done ty) (hf : q.phase ≠ .failed) :
      q.Enters { q with phase := .failed, ty := Config.ctNone, micro := .commit }

/-- What one move makes of the phase and the type, and of the places that `Seq.Coherent` speaks of. -/
inductive Seq.Advances (q : Seq) : Seq → Prop where
  | stays : q.Advances q
  /-- The phase and the type stay, the place is none that tells anything of them. -/
  | resumes {q' : Seq} (phase : q'.phase = q.phase) (type : q'.ty = q.ty) (site : q'.site = .poll → q.site = .poll)
      (place : (q'.micro.opening || q'.micro.polling) = false) : q.Advances q'
  | powersUp (left : Nat) (h : q.Opening) : q.Advances { q with micro := .powerUp left }
  /-- `CMD0` is called, the type voided (R150, R151). -/
  | voids (h : q.Opening) : q.Advances { q with ty := Config.ctNone, site := .main, micro := .issue }
  | arms (h : q.phase = .reset) : q.Advances { q with micro := .armNegotiation }
  | probes (r : Byte) (h : q.phase = .v1MmcNegotiate) : q.Advances { q with ty := probeType r, micro := .pollTest }
  /-- The command of the poll returned (R159). -/
  | polls (m : Micro) (hm : m.opening = false) (h : q.phase = .v1MmcNegotiate → q.site = .poll) :
      q.Advances { q with micro := m }
  | sends (h : q.micro = .pollTest) : q.Advances { q with site := .poll, micro := .issue }
  | enters {q' : Seq} (h : q.Enters q') : q.Advances q'

section Coherent

variable {q q' : Seq}

theorem isProbed_probeType (r : Byte) : IsProbed (probeType r) := by
  unfold probeType
  split
  · exact .inl rfl
  · exact .inr rfl

theorem admits_done_sd2Type (ocr0 : Byte) : (Phase.done (sd2Type ocr0)).Admits (sd2Type ocr0) := by
  rw [sd2Type_eq]
  split <;> exact ⟨rfl, rfl, by decide⟩

theorem admits_done_of_isProbed {ty : Byte} (h : IsProbed ty) : (Phase.done ty).Admits ty := by
  rcases h with rfl | rfl <;> exact ⟨rfl, rfl, by decide⟩

theorem Seq.Enters.coherent (h : q.Enters q') (hq : q.Coherent) : q'.Coherent := by
  cases h with
  | interfaceCheck => exact ⟨trivial, nofun, nofun⟩
  | v2Negotiate => exact ⟨trivial, nofun, nofun⟩
  | v1MmcNegotiate => exact ⟨trivial, fun _ hp => hp.elim nofun nofun, nofun⟩
  | blockLengthSet h hm => exact ⟨hq.polling h (.inr (by rw [hm]; rfl)), nofun, nofun⟩
  | doneV2 ocr0 => exact ⟨admits_done_sd2Type ocr0, nofun, nofun⟩
  | doneV1Mmc h =>
    have typed := hq.typed
    rw [h] at typed
    exact ⟨admits_done_of_isProbed typed, nofun, nofun⟩
  | failed => exact ⟨rfl, nofun, nofun⟩

theorem Seq.Advances.coherent (h : q.Advances q') (hq : q.Coherent) : q'.Coherent := by
  cases h with
  | stays => exact hq
  | resumes phase type site place =>
    obtain ⟨ho, hp⟩ := Bool.or_eq_false_iff.mp place
    refine ⟨by rw [phase, type]; exact hq.typed, fun hv hpoll => ?_, fun h => nomatch ho.symm.trans h.2⟩
    rw [type]
    exact hq.polling (phase.symm.trans hv) (.inl (site (hpoll.resolve_right (by simp [hp]))))
  | powersUp left h => exact .of_reset (hq.opening h)
  | voids h => exact .of_reset (hq.opening h)
  | arms h => exact .of_reset h
  | probes r h =>
    refine ⟨?_, fun _ _ => isProbed_probeType r, nofun⟩
    change q.phase.Admits _
    rw [h]
    trivial
  | polls m hm h => exact ⟨hq.typed, fun hv _ => hq.polling hv (.inl (h hv)), fun ho => nomatch hm.symm.trans ho.2⟩
  | sends h => exact ⟨hq.typed, fun hv _ => hq.polling hv (.inr (by rw [h]; rfl)), nofun⟩
  | enters h => exact h.coherent hq

theorem Seq.Advances.enters_of_phase_ne (h : q.Advances q') (hne : q'.phase ≠ q.phase) : q.Enters q' := by
  cases h with
  | enters h => exact h
  | resumes phase => exact absurd phase hne
  | stays | powersUp | voids | arms | probes | polls | sends => exact absurd rfl hne

end Coherent

/-! ### The returns advance `SEQ` -/

section Returns

variable (s : State)

theorem advances_goto {m : Micro} (hm : (m.opening || m.polling) = false) : s.seq.Advances (s.goto m).seq :=
  .resumes rfl rfl id hm

theorem advances_call {site : Site} (app : Bool) (idx : Index) (arg : Argument) (h : site ≠ .poll) :
    s.seq.Advances (s.call site app idx arg).seq :=
  .resumes rfl rfl (absurd · h) rfl

theorem advances_closeWithValue (v : Option Word32) : s.seq.Advances (s.closeWithValue v).seq := by
  cases v <;> exact .resumes rfl rfl id rfl

theorem advances_failInit : s.seq.Advances s.failInit.seq := by
  unfold State.failInit
  split
  · exact advances_goto s rfl
  · exact advances_goto s rfl
  next hd hf => exact .enters (.failed hd hf)

theorem advances_exitOp : s.seq.Advances s.exitOp.seq := by
  unfold State.exitOp
  split
  · exact advances_failInit s
  · exact advances_goto s rfl

theorem advances_pollCommand (hm : s.seq.micro = .pollTest) : s.seq.Advances s.pollCommand.seq := by
  unfold State.pollCommand
  split
  · exact .sends hm
  · split <;> exact .sends hm

theorem advances_pollSucceeded (hm : s.seq.micro = .pollExit) : s.seq.Advances s.pollSucceeded.seq := by
  unfold State.pollSucceeded
  split
  · exact advances_call s _ _ _ nofun
  next hv => exact .enters (.blockLengthSet hv hm)
  · exact advances_failInit s

theorem advances_initReturn (r : Byte) : s.seq.Advances (s.initReturn r).seq := by
  unfold State.initReturn
  split
  next hp =>
    split
    · exact .arms hp
    · exact advances_failInit s
  next hp =>
    split
    · exact advances_goto s rfl
    · exact .enters (.v1MmcNegotiate hp)
  next hp =>
    have v2 : s.seq.phase = .v1MmcNegotiate → s.seq.site = .poll := fun hv => nomatch hp.symm.trans hv
    split
    · split <;> exact .polls _ rfl v2
    · split
      · exact advances_goto s rfl
      · exact advances_failInit s
  next hp =>
    split
    next hs => split <;> exact .polls _ rfl fun _ => hs
    next => exact .probes r hp
  next hp =>
    split
    · exact .enters (.doneV1Mmc hp)
    · exact advances_failInit s
  · exact advances_goto s rfl
  · exact advances_goto s rfl

theorem advances_initRaw : s.seq.Advances s.initRaw.seq := by
  unfold State.initRaw
  split
  next hp =>
    split
    · exact .enters (.v2Negotiate hp)
    · exact advances_failInit s
  next hp => exact .enters (.doneV2 _ hp)
  · exact advances_failInit s

theorem advances_readReturn (r : Byte) : s.seq.Advances (s.readReturn r).seq := by
  rw [readReturn_eq]
  split <;> exact advances_goto s rfl

theorem advances_writeReturn (count r : Byte) : s.seq.Advances (s.writeReturn count r).seq := by
  unfold State.writeReturn
  split
  · exact advances_call s _ _ _ nofun
  · split <;> exact advances_goto s rfl

theorem advances_queryReturn (code r : Byte) : s.seq.Advances (s.queryReturn code r).seq := by
  unfold State.queryReturn
  split_ifs <;> exact advances_goto s rfl

theorem advances_readBlock (count : Byte) (received : Bool) : s.seq.Advances (s.readBlock count received).seq := by
  unfold State.readBlock
  split
  · split <;> exact .resumes rfl rfl id rfl
  · split
    · split
      · exact .resumes rfl rfl nofun rfl
      · exact .resumes rfl rfl id rfl
    · exact advances_call s _ _ _ nofun

theorem advances_writeBlock (k : TxToken) (sent : Bool) : s.seq.Advances (s.writeBlock k sent).seq := by
  unfold State.writeBlock
  split
  · split <;> exact .resumes rfl rfl id rfl
  · split
    · split <;> exact .resumes rfl rfl id rfl
    · exact advances_goto s rfl
  · split <;> exact .resumes rfl rfl id rfl

theorem advances_queryBlock (code : Byte) (received : Bool) : s.seq.Advances (s.queryBlock code received).seq := by
  unfold State.queryBlock
  split
  · split
    · exact advances_closeWithValue s _
    · split
      · split
        · exact advances_goto s rfl
        · exact advances_closeWithValue s _
      · exact .resumes rfl rfl id rfl
  · exact advances_goto s rfl

theorem advances_operationReturn (r : Byte) : s.seq.Advances (s.operationReturn r).seq := by
  unfold State.operationReturn
  split
  · exact advances_initReturn s r
  · exact advances_readReturn s r
  · exact advances_writeReturn s _ r
  · exact advances_queryReturn s _ r
  · exact advances_goto s rfl

theorem advances_commandReturn (pfx : Bool) (r : Byte) : s.seq.Advances (s.commandReturn pfx r).seq := by
  unfold State.commandReturn
  split
  · exact .resumes rfl rfl id rfl
  · exact advances_operationReturn { s with resp := r } r

theorem advances_selectReturn (c : SelectCaller) (selected : Bool) :
    s.seq.Advances (s.selectReturn c selected).seq := by
  unfold State.selectReturn
  split
  · split
    · exact advances_goto s rfl
    · exact advances_commandReturn s _ _
  · split
    · split <;> exact .resumes rfl rfl id rfl
    · exact advances_exitOp s

theorem advances_blockInReturn (received : Bool) : s.seq.Advances (s.blockInReturn received).seq := by
  unfold State.blockInReturn
  split
  · exact advances_readBlock s _ received
  · exact advances_queryBlock s _ received
  · exact advances_exitOp s

theorem advances_blockOutReturn (k : TxToken) (sent : Bool) : s.seq.Advances (s.blockOutReturn k sent).seq := by
  unfold State.blockOutReturn
  split
  · exact advances_writeBlock s k sent
  · exact advances_exitOp s

theorem advances_readyReturn (c : ReadyCaller) (isReady : Bool) : s.seq.Advances (s.readyReturn c isReady).seq := by
  unfold State.readyReturn
  split
  · split
    · exact advances_selectReturn s _ true
    · exact advances_goto s rfl
  · split
    · exact advances_goto s rfl
    · exact advances_blockOutReturn s _ false

theorem advances_rawReturn : s.seq.Advances s.rawReturn.seq := by
  unfold State.rawReturn
  split
  · exact advances_initRaw s
  · exact .resumes rfl rfl id rfl
  · exact advances_exitOp s

theorem advances_purgeReturn : s.seq.Advances s.purgeReturn.seq := by
  unfold State.purgeReturn
  split
  · exact advances_closeWithValue s _
  · exact advances_exitOp s

theorem advances_finish : s.seq.Advances s.finish.seq := by
  cases hop : s.seq.op.isInitialize with
  | true =>
    rw [finish_of_initialize s hop]
    split <;> exact advances_goto s rfl
  | false =>
    obtain ⟨r, hr⟩ := finish_of_not_initialize s hop
    rw [hr]
    exact .resumes rfl rfl id rfl

theorem advances_deselectReturn (c : DeselectCaller) : s.seq.Advances (s.deselectReturn c).seq := by
  cases c with
  | command => exact advances_goto s rfl
  | selectFailed c => exact advances_selectReturn s c false
  | exit => exact advances_finish s

theorem advances_afterPayloadIn (i : Nat) : s.seq.Advances (s.afterPayloadIn i).seq := by
  unfold State.afterPayloadIn
  split <;> exact advances_goto s rfl

theorem advances_afterPayloadOut (k : TxToken) (i : Nat) : s.seq.Advances (s.afterPayloadOut k i).seq := by
  unfold State.afterPayloadOut
  split <;> exact advances_goto s rfl

theorem advances_afterRaw (i : Nat) : s.seq.Advances (s.afterRaw i).seq := by
  unfold State.afterRaw
  split
  · exact advances_goto s rfl
  · exact advances_rawReturn s

theorem advances_afterFrameByte (pfx : Bool) (i : Nat) : s.seq.Advances (s.afterFrameByte pfx i).seq := by
  unfold State.afterFrameByte
  split_ifs <;> exact .resumes rfl rfl id rfl

end Returns

/-! ### The move of the foreground -/

/-- A move from `q` that ends in a next state advances `SEQ`. -/
def EndsAdvanced (q : Seq) : Result → Prop
  | .next t => q.Advances t.seq
  | .fault _ | .refused _ => True

section Move

variable {p t : State}

/-- Control flow after a primitive that leaves `SEQ`. -/
theorem EndsAdvanced.after {u : State} (h : u.seq.Advances t.seq) (hu : u.seq = p.seq) :
    EndsAdvanced p.seq (.next t) :=
  hu ▸ h

theorem payloadInStep_advances (i : Nat) : EndsAdvanced p.seq (p.payloadInStep i) := by
  unfold State.payloadInStep
  split
  · split
    · exact .after (advances_afterPayloadIn _ i) rfl
    · exact trivial
  · exact .after (advances_afterPayloadIn _ i) rfl

theorem payloadOutStep_advances (k : TxToken) (i : Nat) : EndsAdvanced p.seq (p.payloadOutStep k i) := by
  unfold State.payloadOutStep
  split
  · exact .after (advances_afterPayloadOut _ k i) rfl
  · exact trivial

theorem rawInStep_advances (i : Nat) : EndsAdvanced p.seq (p.rawInStep i) := by
  unfold State.rawInStep
  split
  · split
    · exact .after (advances_afterRaw _ i) rfl
    · exact trivial
  · exact .after (advances_afterRaw _ i) rfl

/-- A primitive that is no instruction. -/
theorem primitive_advances (hb : p.seq.busy = true) : EndsAdvanced p.seq p.primitive := by
  have goes {m : Micro} (hm : (m.opening || m.polling) = false) : EndsAdvanced p.seq (.next (p.goto m)) :=
    advances_goto p hm
  unfold State.primitive
  cases hm : p.seq.micro with
  | issue | response | readyPoll | tokenPoll | token | dataResponse => exact trivial
  | rest => exact .stays
  | clockSlow => exact .powersUp _ ⟨hb, by rw [hm]; rfl⟩
  | powerUp left =>
    have opening : p.seq.Opening := ⟨hb, by rw [hm]; rfl⟩
    dsimp only
    split
    · exact .voids opening
    · exact .powersUp _ opening
  | armNegotiation => exact .enters (.interfaceCheck ⟨hb, by rw [hm]; rfl⟩)
  | deselectLatch | selectLatch | selectDummy | readyArm | stuff | tokenArm | discard | commit | markReady
  | clockFast | powerOff | markFailed | reportStatus => exact .resumes rfl rfl id rfl
  | deselectDummy c => exact .after (advances_deselectReturn _ c) rfl
  | readyTest c =>
    dsimp only
    split
    · exact advances_readyReturn p c false
    · exact goes rfl
  | frame pfx i => exact .after (advances_afterFrameByte _ pfx i) rfl
  | tokenTest =>
    dsimp only
    split
    · exact advances_blockInReturn p false
    · exact goes rfl
  | payloadIn i => exact payloadInStep_advances i
  | crcIn =>
    dsimp only
    split
    · exact .after (advances_blockInReturn _ true) rfl
    · exact goes rfl
  | payloadOut k i => exact payloadOutStep_advances k i
  | crcOut =>
    dsimp only
    split <;> exact goes rfl
  | rawIn i => exact rawInStep_advances i
  | purge =>
    dsimp only
    split
    · exact .after (advances_purgeReturn _) rfl
    · exact goes rfl
  | pollTest =>
    dsimp only
    split
    · exact advances_failInit p
    · exact advances_pollCommand p hm
  | pollExit =>
    dsimp only
    split
    · exact advances_pollSucceeded p hm
    · split
      · exact advances_pollSucceeded p hm
      · exact advances_failInit p

/-! ### The moves at which something stands on the wire -/

theorem sendCommand_advances (app : Bool) (idx : Index) (arg : Argument) :
    EndsAdvanced p.seq (p.sendCommand app idx arg) := by
  unfold State.sendCommand State.startCommand
  split
  · split <;> exact .resumes rfl rfl id rfl
  · exact trivial

theorem sendToken_advances (k : TxToken) : EndsAdvanced p.seq (p.sendToken k) := by
  unfold State.sendToken
  split
  · split
    · exact .after (advances_blockOutReturn _ .stopTran true) rfl
    · exact .resumes rfl rfl id rfl
  · exact trivial

theorem response_advances (b : Byte) : EndsAdvanced p.seq (takeUp (.response b) p) := by
  have returns (pfx : Bool) : EndsAdvanced p.seq (.next ((p.pollExchange b).commandReturn pfx b)) :=
    .after (advances_commandReturn _ pfx b) rfl
  rw [takeUp_response]
  unfold State.takeResponse State.missResponse
  split
  · split
    · split
      · exact returns _
      · exact trivial
    · exact trivial
  · split
    · split
      · exact returns _
      · exact .stays
    · exact trivial

theorem startToken_advances (b : Byte) : EndsAdvanced p.seq (takeUp (.startToken b) p) := by
  rw [takeUp_startToken]
  unfold State.takeStartToken State.missStartToken
  split
  · split
    · exact .resumes rfl rfl id rfl
    · exact trivial
  · split
    · exact .resumes rfl rfl id rfl
    · exact .after (advances_blockInReturn _ false) rfl

theorem readyByte_advances (b : Byte) : EndsAdvanced p.seq (takeUp (.readyByte b) p) := by
  rw [takeUp_readyByte]
  unfold State.takeReady State.missReady
  split
  · split
    · split
      · exact .after (advances_readyReturn _ _ true) rfl
      · exact trivial
    · exact trivial
  · split
    · exact .resumes rfl rfl id rfl
    · exact trivial

theorem dataResponse_advances (b : Byte) : EndsAdvanced p.seq (takeUp (.dataResponse b) p) := by
  have returns (k : TxToken) (sent : Bool) :
      EndsAdvanced p.seq (.next ((p.exchange Config.fill b).blockOutReturn k sent)) :=
    .after (advances_blockOutReturn _ k sent) rfl
  rw [takeUp_dataResponse]
  unfold State.takeDataResponse State.missDataResponse
  split
  · split
    · split
      · exact returns _ true
      · exact trivial
    · exact trivial
  · split
    · exact returns _ false
    · exact trivial

theorem takeUp_wire_advances {sig : Signal} (hw : p.wireSignal = some sig) : EndsAdvanced p.seq (takeUp sig p) := by
  unfold State.wireSignal at hw
  split at hw
  · split at hw <;> cases hw
    · rcases takeUp_frame p.app p.idx p.arg p with h | h <;> rw [h]
      · exact sendCommand_advances p.app p.idx p.arg
      · exact trivial
    · rw [takeUp_sentToken]; exact sendToken_advances _
    · exact response_advances _
    · exact startToken_advances _
    · exact readyByte_advances _
    · exact dataResponse_advances _
  · cases hw

/-! ### A host request -/

theorem ioctlGate_advances {pdrv : Byte} {body : Result} (h : p.ioctlGate pdrv body = .next t)
    (hbody : body = .next t → p.seq.Advances t.seq) : p.seq.Advances t.seq := by
  obtain ⟨-, h⟩ := whenIdle_next h
  split_ifs at h
  · cases h; exact .stays
  · cases h; exact .stays
  · exact hbody h

theorem execRead_advances {pdrv : Byte} {sector : Sector} {count : Byte} (h : execRead pdrv sector count p = .next t) :
    p.seq.Advances t.seq := by
  obtain ⟨-, h⟩ := whenIdle_next h
  split_ifs at h <;> cases h
  · exact .stays
  · exact .stays
  all_goals exact .resumes rfl rfl nofun rfl

theorem advances_startWrite (op : HostOp) (sector : Sector) (count : Byte) :
    p.seq.Advances ((p.startTransfer op sector count).startWrite sector count).seq := by
  unfold State.startWrite
  split_ifs <;> exact .resumes rfl rfl nofun rfl

theorem execWrite_advances {pdrv : Byte} {sector : Sector} {count : Byte}
    (h : execWrite pdrv sector count p = .next t) : p.seq.Advances t.seq := by
  obtain ⟨-, h⟩ := whenIdle_next h
  split_ifs at h <;> cases h
  case neg => exact advances_startWrite _ _ _
  all_goals exact .stays

theorem exec_decodeIoctl_advances {pdrv code : Byte} (h : exec (decodeIoctl pdrv code) p = .next t) :
    p.seq.Advances t.seq := by
  unfold decodeIoctl at h
  split_ifs at h
  all_goals
    refine ioctlGate_advances h fun h => ?_
    repeat' split at h
    all_goals
      cases h
      exact .resumes rfl rfl nofun rfl

/-- `INITIALIZE` begins in state `Reset` (R150), every other operation leaves the phase as it is. -/
theorem takeUp_request_advances {w : RequestWord} (h : takeUp (.request w) p = .next t) :
    t.seq.phase = .reset ∨ p.seq.Advances t.seq := by
  unfold takeUp at h
  split at h
  next i hd =>
    simp only [decode, decodeRequest] at hd
    split_ifs at hd <;> cases hd
    · obtain ⟨-, h⟩ := whenIdle_next h
      cases h; exact .inr .stays
    · obtain ⟨-, h⟩ := whenIdle_next h
      split_ifs at h <;> cases h
      · exact .inr .stays
      · exact .inl rfl
    · exact .inr (execRead_advances h)
    · exact .inr (execWrite_advances h)
    · exact .inr (exec_decodeIoctl_advances h)
  · cases h

end Move

/-! ### The step -/

section Step

variable {s t : State}

theorem step_foreground_advances (he : s.nextEvent = .foreground) (h : step s = .next t) :
    s.seq.Advances t.seq := by
  have ends : EndsAdvanced s.popEvent.seq (step s) := by
    cases hb : s.seq.busy with
    | false => rw [step_foreground_idle he hb]; exact .stays
    | true =>
      cases hw : s.popEvent.wireSignal with
      | some sig => rw [step_foreground_wire he hw]; exact takeUp_wire_advances hw
      | none => rw [step_foreground_primitive he hb hw]; exact primitive_advances (by simpa using hb)
  rwa [h, State.popEvent_seq] at ends

theorem step_keeps_coherent (hs : s.seq.Coherent) (h : step s = .next t) : t.seq.Coherent := by
  cases he : s.nextEvent with
  | foreground => exact (step_foreground_advances he h).coherent hs
  | tick => rw [step_tick he] at h; cases h; simpa using hs
  | lines cd wp => rw [step_lines he] at h; cases h; simpa using hs
  | request buffer w =>
    rw [step_request he] at h
    rcases takeUp_request_advances h with hr | ha
    · exact .of_reset hr
    · exact ha.coherent (by simpa using hs)
  | hostWrite buffer offset b =>
    rw [step_hostWrite he] at h
    unfold State.hostWrites at h
    split_ifs at h
    cases h
    simpa using hs
  | reset => rw [step_reset he] at h; cases h; exact .of_reset rfl

/-- Settles O58: each move of the phase or the type leaves what the new state of `INITIALIZE` asks for. -/
theorem stepKeepsPhaseCoherent : Obligations.StepKeepsPhaseCoherent :=
  fun _ _ hs h => phaseCoherent_iff.mpr (step_keeps_coherent (phaseCoherent_iff.mp hs) h)

end Step

/-! ### The edges of the transition table -/

/-- Settles O46: a move that changes the phase is one of `Seq.Enters`, whose source `PhaseCoherent` fixes. -/
theorem phaseTransitions : Obligations.PhaseTransitions := by
  intro s t p hs h he hop hne
  have coherent := phaseCoherent_iff.mp hs
  have entered := (step_foreground_advances he h).enters_of_phase_ne hne
  generalize s.seq = q, t.seq = q' at coherent entered ⊢
  cases entered with
  | interfaceCheck h => rw [coherent.opening h]; exact ⟨by simp, nofun⟩
  | v2Negotiate h | v1MmcNegotiate h | blockLengthSet h => rw [h]; exact ⟨by simp, nofun⟩
  | doneV2 ocr0 h =>
    rw [h, sd2Type_eq]
    split <;> exact ⟨by simp, nofun⟩
  | doneV1Mmc h =>
    have typed := coherent.typed
    rw [h] at typed ⊢
    refine ⟨?_, fun ty _ hty => (Phase.done.inj hty).symm⟩
    rcases typed with hty | hty <;> rw [hty] <;> simp
  | failed hd hf =>
    refine ⟨?_, nofun⟩
    cases hph : q.phase with
    | done ty => exact absurd hph (hd ty)
    | failed => exact absurd hph hf
    | reset | interfaceCheck | v2Negotiate | v1MmcNegotiate | blockLengthSet => simp

end Sys2Proof.Machine
end

section
/-! PROOFS. O22: what a command's response means to `INITIALIZE`. -/

namespace Sys2Proof.Machine

variable {s u : State}

/-! ### What `INITIALIZE` does with the byte that `SENDCMD` returned (R151 to R157) -/

/-- The states of `INITIALIZE` that only the commit leaves (R160). -/
def Phase.final : Phase → Bool
  | .done _ | .failed => true
  | _ => false

theorem operationReturn_initialize {p : Byte} (hop : s.seq.op = .initializeDrive p) (r : Byte) :
    s.operationReturn r = s.initReturn r := by
  simp only [State.operationReturn, hop]

/-- In a state with a way out but the commit, a failure voids the type. -/
theorem failInit_eq {ph : Phase} (hp : s.seq.phase = ph) (h : ph.final = false) :
    s.failInit = { s with seq := { s.seq with phase := .failed, ty := 0x00#8, micro := .commit } } := by
  subst hp
  unfold State.failInit
  split
  next hd => rw [hd] at h; cases h
  next hf => rw [hf] at h; cases h
  next => rfl

theorem initReturn_reset (hp : s.seq.phase = .reset) (r : Byte) :
    s.initReturn r = if r = 1#8 then s.goto .armNegotiation else s.failInit := by
  simp only [State.initReturn, hp]

theorem initReturn_interfaceCheck (hp : s.seq.phase = .interfaceCheck) (r : Byte) :
    s.initReturn r =
      if r = 1#8 then s.goto (.rawIn 0)
      else { s with
        app := true, idx := 41#6, arg := 0#32
        seq := { s.seq with phase := .v1MmcNegotiate, site := .main, micro := .issue } } := by
  simp only [State.initReturn, hp]
  rfl

theorem initReturn_poll (hp : s.seq.phase = .v2Negotiate ∨ s.seq.phase = .v1MmcNegotiate)
    (hsite : s.seq.site = .poll) (r : Byte) :
    s.initReturn r = s.goto (if r = 0#8 then .pollExit else .pollTest) := by
  rw [apply_ite (fun m => s.goto m)]
  rcases hp with hp | hp <;> simp only [State.initReturn, hp, hsite]

theorem initReturn_readOcr (hp : s.seq.phase = .v2Negotiate) (hsite : s.seq.site ≠ .poll) (r : Byte) :
    s.initReturn r = if r = 0#8 then s.goto (.rawIn 0) else s.failInit := by
  simp only [State.initReturn, hp]

theorem initReturn_probe (hp : s.seq.phase = .v1MmcNegotiate) (hsite : s.seq.site ≠ .poll) (r : Byte) :
    s.initReturn r = { s with seq := { s.seq with ty := probeType r, micro := .pollTest } } := by
  simp only [State.initReturn, hp]

theorem initReturn_blockLengthSet (hp : s.seq.phase = .blockLengthSet) (r : Byte) :
    s.initReturn r = if r = 0#8 then s.finishInit s.seq.ty else s.failInit := by
  simp only [State.initReturn, hp]

/-! ### Valid and invalid bytes -/

theorem response_eq_one_iff (r : BitVec 7) : (0#1 ++ r : Byte) = 1#8 ↔ r = 1#7 := by
  revert r
  decide

theorem probeType_response (r : BitVec 7) : probeType (0#1 ++ r) = if r.toNat ≤ 1 then 0x02#8 else 0x01#8 := by
  simp only [probeType, passesPrefix_response, decide_eq_true_eq]

theorem ne_one_of_high {r : Byte} (h : r.getLsbD 7 = true) : r ≠ 1#8 := by
  rintro rfl
  cases h

theorem probeType_of_high {r : Byte} (h : r.getLsbD 7 = true) : probeType r = 0x01#8 :=
  if_neg (by simp [not_passesPrefix_of_high h])

/-- The response of a command of `INITIALIZE` is valid: its byte is handed to the state it was sent in. -/
theorem exec_r1Valid_initialize {p : Byte} (hop : s.seq.op = .initializeDrive p) (hs : s.standsAt (.response false))
    (r : BitVec 7) : exec (.r1Valid r) s = .next ((s.responded (0#1 ++ r)).initReturn (0#1 ++ r)) := by
  rw [exec_r1Valid_target hs, operationReturn_initialize (s := s.responded _) hop]

theorem step_endsInvalid_initialize {p : Byte} (hop : s.seq.op = .initializeDrive p) (h : s.endsInvalid false u) :
    step s = .next (u.initReturn u.resp) := by
  rw [step_endsInvalid h, operationReturn_initialize (by rwa [h.seq])]

/-- Settles O22: the byte that `SENDCMD` returned, and the branch of the state it was sent in. -/
theorem negotiationResponses : Obligations.NegotiationResponses := by
  refine fun s p hop => ⟨fun r hs => ?valid, fun u h => ?invalid⟩
  case valid =>
    intro t failed
    have fails {ph : Phase} (hp : s.seq.phase = ph) (hf : ph.final = false) : t.failInit = failed :=
      failInit_eq (s := t) hp hf
    have returns : exec (.r1Valid r) s = .next (t.initReturn (0#1 ++ r)) := exec_r1Valid_initialize hop hs r
    rw [returns]
    refine ⟨fun hp => ?_, fun hp => ?_, fun hp hsite => ?_, fun hp hsite => ?_, fun hp hsite => ?_, fun hp => ?_⟩
    · rw [initReturn_reset (s := t) hp, fails hp rfl]
      simp only [response_eq_one_iff]
    · rw [initReturn_interfaceCheck (s := t) hp]
      simp only [response_eq_one_iff]
      rfl
    · rw [initReturn_poll (s := t) hp hsite]
      simp only [response_eq_zero_iff]
    · rw [initReturn_readOcr (s := t) hp hsite, fails hp rfl]
      simp only [response_eq_zero_iff]
    · rw [initReturn_probe (s := t) hp hsite, probeType_response]
      rfl
    · rw [initReturn_blockLengthSet (s := t) hp, fails hp rfl]
      simp only [response_eq_zero_iff]
      rfl
  case invalid =>
    have high := h.resp_high
    rw [step_endsInvalid_initialize hop h, ← h.seq]
    refine ⟨?_, fun hp => ?_, fun hp hsite => ?_, fun hp hsite => ?_⟩
    · rintro (hp | hp | ⟨hp, hsite⟩)
      · rw [initReturn_reset hp, if_neg (ne_one_of_high high), failInit_eq hp rfl]
      · rw [initReturn_blockLengthSet hp, if_neg (ne_zero_of_high high), failInit_eq hp rfl]
      · rw [initReturn_readOcr hp hsite, if_neg (ne_zero_of_high high), failInit_eq hp rfl]
    · rw [initReturn_interfaceCheck hp, if_neg (ne_one_of_high high)]
    · rw [initReturn_poll hp hsite, if_neg (ne_zero_of_high high)]
    · rw [initReturn_probe hp hsite, probeType_of_high high]

end Sys2Proof.Machine
end

section
/-! PROOFS. O9, O47: the acceptance of `INITIALIZE`, and its negotiation poll. -/

namespace Sys2Proof.Machine

variable {s : State}

/-! ### The acceptance (R150) -/

theorem whenIdle_of_idle (hi : s.seq.busy = false) (accepted : Result) : s.whenIdle accepted = accepted :=
  if_neg (by simp [hi])

/-- Settles O9: the one gate is `pdrv`. -/
theorem initializeBegins : Obligations.InitializeBegins := by
  refine fun s hi => ⟨?_, fun pdrv hp => ?_⟩
  · change s.whenIdle _ = _
    rw [whenIdle_of_idle hi]
    rfl
  · change s.whenIdle _ = _
    rw [whenIdle_of_idle hi]
    exact if_pos hp

/-! ### The negotiation poll (R151, R153, R155, R156, R159) -/

theorem performs_armNegotiation (hm : s.seq.micro = .armNegotiation) :
    s.Performs (((s.arm1 Config.tInit).enterPhase .interfaceCheck .issue).call .main false Config.idxSendIfCond
      Config.argIfCond) := by
  simp only [State.Performs, State.wireSignal, State.primitive, hm, ite_self, and_self]

theorem performs_pollTest (hm : s.seq.micro = .pollTest) :
    s.Performs (if s.tmr1 = 0#16 then s.failInit else s.pollCommand) := by
  simp only [State.Performs, State.wireSignal, State.primitive, hm, ite_self, true_and]
  exact (apply_ite Host.Outcome.next _ _ _).symm

theorem performs_pollExit (hm : s.seq.micro = .pollExit) :
    s.Performs (if s.tmr1 ≠ 0#16 ∨ Config.pollSuccessRule = .byResponse then s.pollSucceeded else s.failInit) := by
  simp only [State.Performs, State.wireSignal, State.primitive, hm, ite_self, true_and]
  by_cases ht : s.tmr1 = 0#16
  · simp only [ht, ne_eq, not_true_eq_false, false_or, if_false]
    exact (apply_ite Host.Outcome.next _ _ _).symm
  · rw [if_pos ht, if_pos (.inl ht)]

/-- The send of the poll (R159), by the path and the probed type. -/
theorem pollCommand_eq (hp : s.seq.phase = .v2Negotiate ∨ s.seq.phase = .v1MmcNegotiate) :
    s.pollCommand =
      { s with
        app := if s.seq.phase = .v2Negotiate ∨ s.seq.ty = 0x02#8 then true else false
        idx := if s.seq.phase = .v2Negotiate ∨ s.seq.ty = 0x02#8 then 41#6 else 1#6
        arg := if s.seq.phase = .v2Negotiate then 0x40000000#32 else 0#32
        seq := { s.seq with site := .poll, micro := .issue } } := by
  rcases hp with hp | hp
  · simp [State.pollCommand, State.call, hp]
  · by_cases hty : s.seq.ty = 0x02#8 <;> simp [State.pollCommand, State.call, hp, hty]

theorem pollSucceeded_eq (hp : s.seq.phase = .v2Negotiate ∨ s.seq.phase = .v1MmcNegotiate) :
    s.pollSucceeded =
      if s.seq.phase = .v2Negotiate then
        { s with app := false, idx := 58#6, arg := 0#32, seq := { s.seq with site := .main, micro := .issue } }
      else
        { s with
          app := false, idx := 16#6, arg := 512#32
          seq := { s.seq with phase := .blockLengthSet, site := .main, micro := .issue } } := by
  rcases hp with hp | hp <;> simp [State.pollSucceeded, State.call, State.enterPhase, hp]

/-- Settles O47: the step at each place of the poll, and the descriptor of each command it calls. -/
theorem negotiationPoll : Obligations.NegotiationPoll := by
  intro s he
  refine ⟨fun hs => ?arm, fun hp => ?poll⟩
  case arm =>
    rw [step_of_performs he hs.1 (performs_armNegotiation (standsAt_popEvent hs).2), ← State.popEvent_seq s]
    rfl
  case poll =>
    intro failed acmd41
    have hp' : s.popEvent.seq.phase = .v2Negotiate ∨ s.popEvent.seq.phase = .v1MmcNegotiate := by simpa using hp
    have fails : s.popEvent.failInit = failed := by
      rw [hp'.elim (failInit_eq · rfl) (failInit_eq · rfl), State.popEvent_seq]
    have test (hs : s.standsAt .pollTest) := step_of_performs he hs.1 (performs_pollTest (standsAt_popEvent hs).2)
    have exit (hs : s.standsAt .pollExit) := step_of_performs he hs.1 (performs_pollExit (standsAt_popEvent hs).2)
    rw [State.popEvent_tmr1] at test exit
    refine ⟨fun hs ht => ?_, fun hs ht => ?_, fun hs ht => ?_, fun hs ht hr => ?_⟩
    · rw [test hs, if_pos ht, fails]
    · rw [test hs, if_neg ht, pollCommand_eq hp', State.popEvent_seq]
    · rw [exit hs, if_pos ht, pollSucceeded_eq hp', State.popEvent_seq]
    · rw [exit hs, if_neg (by simp [ht, hr]), fails]

end Sys2Proof.Machine
end

section
/-! PROOFS. O48: the commit and the exit of `INITIALIZE`. -/

namespace Sys2Proof.Machine

variable {s : State} {k : Nat}

/-! ### The primitives of the exit (R158) -/

theorem performs_commit (hm : s.seq.micro = .commit) :
    s.Performs (({ s with ct := s.seq.ty } : State).goto (.deselectLatch .exit)) := by
  simp only [State.Performs, State.wireSignal, State.primitive, hm, ite_self, and_self]

theorem performs_markReady (hm : s.seq.micro = .markReady) :
    s.Performs ((s.setNotInitialized false).goto .clockFast) := by
  simp only [State.Performs, State.wireSignal, State.primitive, hm, ite_self, and_self]

theorem performs_clockFast (hm : s.seq.micro = .clockFast) : s.Performs ((s.setClk .fast).goto .reportStatus) := by
  simp only [State.Performs, State.wireSignal, State.primitive, hm, ite_self, and_self]

theorem performs_powerOff (hm : s.seq.micro = .powerOff) : s.Performs ((s.setPwr .off).goto .markFailed) := by
  simp only [State.Performs, State.wireSignal, State.primitive, hm, ite_self, and_self]

theorem performs_markFailed (hm : s.seq.micro = .markFailed) :
    s.Performs ((s.setNotInitialized true).goto .reportStatus) := by
  simp only [State.Performs, State.wireSignal, State.primitive, hm, ite_self, and_self]

theorem performs_reportStatus (hm : s.seq.micro = .reportStatus) :
    s.Performs (s.deliver (.status s.stat.toByte)) := by
  simp only [State.Performs, State.wireSignal, State.primitive, hm, ite_self, and_self]

/-! ### The run of the exit -/

section Scripted

variable (hb : s.seq.busy = true) (bytes : List Byte)

include hb

theorem step_exitLatch_scripted :
    step ((s.goto (.deselectLatch .exit)).scripted (k + 1) bytes) =
      .next (((s.setCs .deasserted).goto (.deselectDummy .exit)).scripted k bytes) :=
  step_scripted_of_performs (s := s.goto _) hb (performs_deselectLatch rfl)

/-- The end of the closing `DESELECT` of `INITIALIZE`. -/
theorem step_exitDummy_scripted (hop : s.seq.op.isInitialize = true) (d : Byte) :
    step ((s.goto (.deselectDummy .exit)).scripted (k + 1) (d :: bytes)) =
      .next (((s.heard [d]).goto (if s.seq.ty = 0x00#8 then .powerOff else .markReady)).scripted k bytes) :=
  calc step ((s.goto (.deselectDummy .exit)).scripted (k + 1) (d :: bytes))
    _ = .next (((s.heard [d]).goto (.deselectDummy .exit)).scripted k bytes).finish :=
      step_scripted_of_performs (s := s.goto _) hb (performs_deselectDummy (c := .exit) rfl)
    _ = _ := congrArg Host.Outcome.next
      (finish_of_initialize (((s.heard [d]).goto (.deselectDummy .exit)).scripted k bytes) hop)

theorem step_markReady_scripted :
    step ((s.goto .markReady).scripted (k + 1) bytes) =
      .next (((s.setNotInitialized false).goto .clockFast).scripted k bytes) :=
  step_scripted_of_performs (s := s.goto _) hb (performs_markReady rfl)

theorem step_clockFast_scripted :
    step ((s.goto .clockFast).scripted (k + 1) bytes) =
      .next (((s.setClk .fast).goto .reportStatus).scripted k bytes) :=
  step_scripted_of_performs (s := s.goto _) hb (performs_clockFast rfl)

theorem step_powerOff_scripted :
    step ((s.goto .powerOff).scripted (k + 1) bytes) = .next (((s.setPwr .off).goto .markFailed).scripted k bytes) :=
  step_scripted_of_performs (s := s.goto _) hb (performs_powerOff rfl)

theorem step_markFailed_scripted :
    step ((s.goto .markFailed).scripted (k + 1) bytes) =
      .next (((s.setNotInitialized true).goto .reportStatus).scripted k bytes) :=
  step_scripted_of_performs (s := s.goto _) hb (performs_markFailed rfl)

theorem step_reportStatus_scripted :
    step ((s.goto .reportStatus).scripted (k + 1) bytes) =
      .next ((s.deliver (.status s.stat.toByte)).scripted k bytes) :=
  step_scripted_of_performs (s := s.goto _) hb (performs_reportStatus rfl)

/-- `INITIALIZE` succeeded: the status update, the clock, the result (R158). -/
theorem runFor_markReady :
    runFor (k + 3) ((s.goto .markReady).scripted (k + 3) bytes) =
      runFor k ((((s.setNotInitialized false).setClk .fast).deliver
        (.status (s.stat.withNotInitialized false).toByte)).scripted k bytes) := by
  rw [runFor_succ_of_next (step_markReady_scripted hb _),
    runFor_succ_of_next (step_clockFast_scripted (s := s.setNotInitialized false) hb _),
    runFor_succ_of_next (step_reportStatus_scripted (s := (s.setNotInitialized false).setClk .fast) hb _)]
  rfl

/-- `INITIALIZE` failed: the power, the status update, the result (R158). -/
theorem runFor_powerOff :
    runFor (k + 3) ((s.goto .powerOff).scripted (k + 3) bytes) =
      runFor k ((((s.setPwr .off).setNotInitialized true).deliver
        (.status (s.stat.withNotInitialized true).toByte)).scripted k bytes) := by
  rw [runFor_succ_of_next (step_powerOff_scripted hb _),
    runFor_succ_of_next (step_markFailed_scripted (s := s.setPwr .off) hb _),
    runFor_succ_of_next (step_reportStatus_scripted (s := (s.setPwr .off).setNotInitialized true) hb _)]
  rfl

end Scripted

/-- `ty` is committed, and the closing `DESELECT` is done (R158). -/
def State.committed (d : Byte) (s : State) : State :=
  (({ s with ct := s.seq.ty } : State).setCs .deasserted).heard [d]

/-- From the commit to the branch of R158 that the type selects. -/
theorem runFor_commit {p : Byte} (hs : s.standsAt .commit) (hop : s.seq.op = .initializeDrive p) (d : Byte)
    (bytes : List Byte) :
    runFor (k + 3) (s.scripted (k + 3) (d :: bytes)) =
      runFor k (((s.committed d).goto (if s.seq.ty = 0x00#8 then .powerOff else .markReady)).scripted k bytes) := by
  obtain ⟨hb, hm⟩ := hs
  have commit : step (s.scripted (k + 3) (d :: bytes)) =
      .next ((({ s with ct := s.seq.ty } : State).goto (.deselectLatch .exit)).scripted (k + 2) (d :: bytes)) :=
    step_scripted_of_performs hb (performs_commit (s := s.scripted (k + 2) (d :: bytes)) hm)
  rw [runFor_succ_of_next commit,
    runFor_succ_of_next (step_exitLatch_scripted (s := { s with ct := s.seq.ty }) hb _),
    runFor_succ_of_next (step_exitDummy_scripted (s := ({ s with ct := s.seq.ty } : State).setCs .deasserted) hb _
      (congrArg HostOp.isInitialize hop) d)]
  rfl

/-- Settles O48: the commit, the closing `DESELECT`, and the branch of R158. -/
theorem initializeExit : Obligations.InitializeExit := by
  intro s p d hs hop run stat t closing
  have committed : run = _ := runFor_commit (k := 3) hs hop d []
  rw [committed]
  refine ⟨fun hty => ?ready, fun hty => ?failed⟩
  case ready =>
    rw [if_neg hty, runFor_markReady (k := 0) (s := s.committed d) hs.1]
    simp only [t, stat, decide_eq_false hty]
    rfl
  case failed =>
    rw [if_pos hty, runFor_powerOff (k := 0) (s := s.committed d) hs.1]
    simp only [t, stat, decide_eq_true hty]
    rfl

end Sys2Proof.Machine
end

section
/-! PROOFS. O10, O11: how `READ` and `WRITE` begin past their gates. -/

namespace Sys2Proof.Machine

variable {s : State} {count : Byte}

/-! ### The gates and the operands (R56, R170 to R172, R175) -/

theorem badParameters_of_pos (h : 1 ≤ count.toNat) : badParameters 0#8 count = false := by
  have hne : count ≠ 0#8 := by rintro rfl; simp at h
  simpa [badParameters] using hne

theorem countOutside_of_le (h : count.toNat ≤ 128) : countOutside count = false :=
  decide_eq_false (Nat.not_lt.mpr h)

theorem isSdFamily_eq (ct : Byte) : isSdFamily ct = (ct.getLsbD 1 || ct.getLsbD 2) := by
  revert ct
  decide

/-- Past its gates, `READ` starts the transfer and calls its first command. -/
theorem execRead_of_gates (hs : s.driveReady) (hpos : 1 ≤ count.toNat) (hmax : count.toNat ≤ 128) (sector : Sector) :
    execRead 0#8 sector count s =
      .next ((s.startTransfer (.read 0#8 sector count s.requestBuffer) sector count).call .main false
        (if count = 1#8 then Config.idxReadSingle else Config.idxReadMultiple) (cardAddress s.ct sector)) := by
  obtain ⟨hidle, hready⟩ := hs
  simp only [execRead, whenIdle_of_idle hidle, badParameters_of_pos hpos, hready, countOutside_of_le hmax,
    Bool.false_eq_true, if_false]

/-- Past its gates, `WRITE` starts the transfer and calls its first command. -/
theorem execWrite_of_gates (hs : s.driveReady) (hw : s.stat.writeProtected = false) (hpos : 1 ≤ count.toNat)
    (hmax : count.toNat ≤ 128) (sector : Sector) :
    execWrite 0#8 sector count s =
      .next ((s.startTransfer (.write 0#8 sector count s.requestBuffer) sector count).startWrite sector count) := by
  obtain ⟨hidle, hready⟩ := hs
  simp only [execWrite, whenIdle_of_idle hidle, badParameters_of_pos hpos, hready, hw, countOutside_of_le hmax,
    Bool.false_eq_true, if_false]

/-- Settles O10: no gate refuses, and the sector is translated as R56 says. -/
theorem readBegins : Obligations.ReadBegins := by
  intro s sector count hs hpos hmax addr
  have translated : cardAddress s.ct sector = addr := cardAddress_eq s.ct sector
  rw [← translated]
  exact execRead_of_gates hs hpos hmax sector

/-- Settles O11: no gate refuses, and the first command is chosen by the count and the card family. -/
theorem writeBegins : Obligations.WriteBegins := by
  intro s sector count hs hw hpos hmax addr q
  have translated : cardAddress s.ct sector = addr := cardAddress_eq s.ct sector
  have begins : exec (.write 0#8 sector count) s = _ := execWrite_of_gates hs hw hpos hmax sector
  have family : isSdFamily (s.startTransfer (.write 0#8 sector count s.requestBuffer) sector count).ct =
      (s.ct.getLsbD 1 || s.ct.getLsbD 2) := isSdFamily_eq s.ct
  rw [begins, State.startWrite, family]
  simp only [q, ← translated, BitVec.ofNat_toNat]
  split_ifs <;> rfl

end Sys2Proof.Machine
end

section
/-! PROOFS. O50: the exit of `READ`, `WRITE` and `IOCTL`. -/

namespace Sys2Proof.Machine

variable {s : State}

theorem finish_transfer {p count : Byte} {sector : Sector} {h : Nat}
    (hop : s.seq.op = .read p sector count h ∨ s.seq.op = .write p sector count h) :
    s.finish = s.deliver (.code (if s.seq.owed = 0 then .ok else .error) none) := by
  rcases hop with hop | hop <;> simp only [State.finish, hop]

theorem finish_ioctl {p code : Byte} {h : Nat} (hop : s.seq.op = .ioctl p code h) :
    s.finish = s.deliver (.code s.seq.res (if s.seq.res = .ok then s.seq.value else none)) := by
  simp only [State.finish, hop]

/-- The closing `DESELECT`, up to what the operation does after it (R105, R173, R197). -/
theorem runFor_exit (hs : s.standsAt (.deselectLatch .exit)) (d : Byte) :
    runFor 2 (s.scripted 2 [d]) =
      .next (((s.setCs .deasserted).heard [d]).goto (.deselectDummy .exit)).finish := by
  obtain ⟨hb, hm⟩ := hs
  have latch : step (s.scripted 2 [d]) =
      .next (((s.setCs .deasserted).goto (.deselectDummy .exit)).scripted 1 [d]) :=
    step_scripted_of_performs hb (performs_deselectLatch (p := s.scripted 1 [d]) hm)
  have dummy : step (((s.setCs .deasserted).goto (.deselectDummy .exit)).scripted 1 [d]) =
      .next (((s.setCs .deasserted).heard [d]).goto (.deselectDummy .exit)).finish :=
    step_scripted_of_performs (s := (s.setCs .deasserted).goto _) hb (performs_deselectDummy (c := .exit) rfl)
  rw [runFor_succ_of_next latch, runFor_succ_of_next dummy, runFor_zero]

/-- Settles O50: the closing `DESELECT`, then the result by the operation. -/
theorem transferExit : Obligations.TransferExit := by
  refine ⟨fun s d hs => ?run, fun c v => ?number⟩
  case run =>
    intro run t
    have exit : run = _ := runFor_exit hs d
    rw [exit]
    exact ⟨fun p sector count h hop => congrArg Host.Outcome.next (finish_transfer (s := State.goto _ _) hop),
      fun p code h hop => congrArg Host.Outcome.next (finish_ioctl (s := State.goto _ _) hop)⟩
  case number => cases c <;> rfl

end Sys2Proof.Machine
end

section
/-! PROOFS. O53: a single-sector `READ`, from its request to its result. -/

namespace Sys2Proof.Machine

variable {s t : State} {j k : Nat}

/-! ### One script after another -/

theorem scripted_append (first next : List Byte) :
    s.scripted (j + k) (first ++ next) = (s.scripted k next).scripted j first := by
  simp only [State.scripted, State.letAnswer, State.letForeground, List.replicate_add, List.append_assoc]

/-- A run that uses up its script, before another script. -/
theorem runFor_append {first : List Byte} (next : List Byte)
    (h : runFor j ((s.scripted k next).scripted j first) = .next (t.scripted k next)) :
    runFor (j + k) (s.scripted (j + k) (first ++ next)) = runFor k (t.scripted k next) := by
  rw [scripted_append, runFor_add j k h]

/-! ### The request -/

/-- `READ` of one sector of drive 0 into buffer `h` is accepted, its command to be taken up (R170). -/
def State.readAccepted (h : Nat) (sector : Sector) (s : State) : State :=
  { s with
    requestBuffer := h, result := none, app := false, idx := 17#6, arg := cardAddress s.ct sector
    seq := { Seq.accepted (.read 0#8 sector 1#8 h) .issue s.seq with addr := cardAddress s.ct sector, owed := 1 } }

theorem step_requestRead (hs : s.driveReady) (h : Nat) (sector : Sector) (bytes : List Byte) :
    step ((s.letAnswer bytes).letRequest h (requestOf 2#3 0#8 sector 1#8 0#8) k) =
      .next ((s.readAccepted h sector).scripted k bytes) := by
  have decoded : decode (.request (requestOf 2#3 0#8 sector 1#8 0#8)) = .ok (.read 0#8 sector 1#8) :=
    decode_requestOf _ _ _ _ _
  rw [step_request (buffer := h) rfl, takeUp, decoded]
  exact execRead_of_gates (s := { s.scripted k bytes with requestBuffer := h }) hs (by decide) (by decide) sector

/-! ### The command and its response -/

/-- A plain command was sent to a card that is ready at once, and its response is polled (R105 to R107, R110). -/
def State.commandSent (d0 d1 : Byte) (replies : List Byte) (s : State) : State :=
  { s with
    cs := .asserted, tmr2 := 500#16, n := 10#8, exchanges := s.exchanges + 9
    trace :=
      exchangesOf (frameBytesFrom (wireFrame false s.idx s.arg) 0) replies ++
        .exchange 0xFF#8 0xFF#8 :: .exchange 0xFF#8 d1 :: .chipSelect .asserted :: .exchange 0xFF#8 d0 ::
          .chipSelect .deasserted :: s.trace
    seq := { s.seq with micro := .response false } }

/-- A plain command up to its response poll, before another script. -/
theorem runFor_command (hs : s.standsAt .issue) (happ : s.app = false) (hidx : s.idx ≠ 12#6)
    (hd : ∃ i, decode (.frame s.app (frameOf s.idx s.arg)) = .ok i) (d0 d1 f0 f1 f2 f3 f4 f5 : Byte)
    (rest : List Byte) :
    runFor (12 + k) (s.scripted (12 + k) ([d0, d1, 0xFF#8, f0, f1, f2, f3, f4, f5] ++ rest)) =
      runFor k ((s.commandSent d0 d1 [f0, f1, f2, f3, f4, f5]).scripted k rest) := by
  apply runFor_append rest
  rw [State.commandSent, frameBytesFrom_wireFrame]
  exact commandTransaction (s.scripted k rest) false d0 d1 f0 f1 f2 f3 f4 f5 hidx (.inl ⟨hs, happ.symm, hd⟩)

/-- The card accepted the command of a `READ`, and the token is awaited (R113, R140, R170). -/
def State.readAwaits (s : State) : State :=
  { s with
    tmr1 := 100#16, n := s.n - 1#8, resp := 0x00#8, exchanges := s.exchanges + 1
    trace := .exchange 0xFF#8 0x00#8 :: s.trace, seq := { s.seq with micro := .tokenPoll } }

theorem commandReturn_read_accepted {p count : Byte} {sector : Sector} {h : Nat}
    (hop : s.seq.op = .read p sector count h) (hsite : s.seq.site = .main) :
    s.commandReturn false 0x00#8 = ({ s with resp := 0x00#8 } : State).goto .tokenArm := by
  rw [commandReturn_target, operationReturn_read (s := { s with resp := 0x00#8 }) hop]
  simp only [State.readReturn, hsite, if_true]

theorem step_tokenArm_scripted (hs : s.standsAt .tokenArm) (bytes : List Byte) :
    step (s.scripted (k + 1) bytes) = .next (((s.arm1 Config.tToken).goto .tokenPoll).scripted k bytes) :=
  step_scripted_of_performs hs.1 (performs_tokenArm (s := s.scripted k bytes) hs.2)

theorem runFor_response_read {p count : Byte} {sector : Sector} {h : Nat} (hs : s.standsAt (.response false))
    (hop : s.seq.op = .read p sector count h) (hsite : s.seq.site = .main) (rest : List Byte) :
    runFor (k + 2) (s.scripted (k + 2) (0x00#8 :: rest)) = runFor k (s.readAwaits.scripted k rest) := by
  have accepted : step (s.scripted (k + 2) (0x00#8 :: rest)) =
      .next ((({ s.polled [0x00#8] with resp := 0x00#8 } : State).goto .tokenArm).scripted (k + 1) rest) := by
    rw [step_response_ends_scripted hs rest (.inl rfl),
      commandReturn_read_accepted (s := (s.polled [0x00#8]).scripted (k + 1) rest) hop hsite]
    rfl
  have armed := step_tokenArm_scripted (k := k)
    (s := ({ s.polled [0x00#8] with resp := 0x00#8 } : State).goto .tokenArm) ⟨hs.1, rfl⟩ rest
  rw [runFor_succ_of_next accepted, runFor_succ_of_next armed]
  rfl

/-! ### The block and the exit -/

/-- The block of a single-sector `READ` arrived, and no sector is owed. -/
def State.readReceived (buffers : List Host.Cell) (block : List Byte) (s : State) : State :=
  { s with
    buffers := buffers, exchanges := s.exchanges + 515
    trace := exchangesOf (List.replicate 515 0xFF#8) block ++ s.trace
    seq := { s.seq with owed := 0, micro := .deselectLatch .exit } }

/-- The block of a single-sector `READ`, before another script. -/
theorem runFor_readBlock {p : Byte} {sector : Sector} {h : Nat} (hs : s.standsAt .tokenPoll)
    (hop : s.seq.op = .read p sector 1#8 h) (hmoved : s.seq.moved = 0) (hwf : BufferCanonical s) {payload : List Byte}
    (hlen : payload.length = 512) (c0 c1 : Byte) (rest : List Byte) :
    ∃ buffers,
      (∀ i < 512, Memory.read buffers (bufferCell h i) = payload.getD i 0#8) ∧
      (∀ c, c < bufferCell h 0 ∨ bufferCell h 512 ≤ c → Memory.read buffers c = Memory.read s.buffers c) ∧
      runFor (515 + k) (s.scripted (515 + k) (0xFE#8 :: payload ++ [c0, c1] ++ rest)) =
        runFor k ((s.readReceived buffers (0xFE#8 :: payload ++ [c0, c1])).scripted k rest) := by
  obtain ⟨buffers, payloadRead, othersRead, single, -⟩ := blockReceived (s.scripted k rest) h 0 512 payload c0 c1 hs hwf
    (.inl ⟨⟨p, sector, 1#8, hop⟩, hmoved.trans_lt (by decide), rfl, congrArg (512 * ·) hmoved.symm⟩) hlen
  refine ⟨buffers, fun i hi => ?_, othersRead, runFor_append rest ?_⟩
  · simpa only [Nat.zero_add] using payloadRead i hi
  · exact single p sector 1#8 hop rfl

/-- Settles O53: the request, the command, the block and the exit, one run after another. -/
theorem readSingleSector : Obligations.ReadSingleSector := by
  intro s h sector d0 d1 d2 c0 c1 frame payload hs hwf hframe hpayload
  obtain ⟨f0, f1, f2, f3, f4, f5, rfl⟩ : ∃ f0 f1 f2 f3 f4 f5, frame = [f0, f1, f2, f3, f4, f5] := by
    match frame, hframe with
    | [f0, f1, f2, f3, f4, f5], _ => exact ⟨f0, f1, f2, f3, f4, f5, rfl⟩
  let block := 0xFE#8 :: payload ++ [c0, c1]
  let sent := (s.readAccepted h sector).commandSent d0 d1 [f0, f1, f2, f3, f4, f5]
  obtain ⟨buffers, payloadRead, othersRead, receipt⟩ := runFor_readBlock (k := 2) (s := sent.readAwaits) ⟨rfl, rfl⟩ rfl
    rfl hwf hpayload c0 c1 [d2]
  have request := step_requestRead (k := 531) hs h sector
    ([d0, d1, 0xFF#8, f0, f1, f2, f3, f4, f5] ++ 0x00#8 :: (block ++ [d2]))
  have command := runFor_command (k := 519) (s := s.readAccepted h sector) ⟨rfl, rfl⟩ rfl (by decide : 17#6 ≠ 12#6)
    ⟨_, decodeEncode (.cmd17 (cardAddress s.ct sector)) rfl⟩ d0 d1 f0 f1 f2 f3 f4 f5 (0x00#8 :: (block ++ [d2]))
  have response := runFor_response_read (k := 517) (s := sent) ⟨rfl, rfl⟩ rfl rfl (block ++ [d2])
  have exit := (transferExit.1 (sent.readAwaits.readReceived buffers block) d2 ⟨rfl, rfl⟩).1 0#8 sector 1#8 h (.inl rfl)
  have script : [d0, d1, 0xFF#8] ++ [f0, f1, f2, f3, f4, f5] ++ [0x00#8, 0xFE#8] ++ payload ++ [c0, c1, d2] =
      [d0, d1, 0xFF#8, f0, f1, f2, f3, f4, f5] ++ 0x00#8 :: (block ++ [d2]) := by simp [block]
  rw [script, runFor_succ_of_next request, command, response, receipt]
  exact ⟨_, exit, rfl, rfl, rfl, rfl, payloadRead, othersRead, rfl, rfl, rfl, rfl, rfl⟩

end Sys2Proof.Machine
end

section
/-! PROOFS. O4, O12, O13: `STATUS`, and how each control code begins. -/

namespace Sys2Proof.Machine

variable {s : State}

/-- A Ready drive passes both gates of `IOCTL` (R185). -/
theorem ioctlGate_of_ready (hs : s.driveReady) (body : Result) : s.ioctlGate 0#8 body = body := by
  obtain ⟨hidle, hready⟩ := hs
  rw [State.ioctlGate, whenIdle_of_idle hidle, if_neg (not_not_intro rfl), if_neg (Bool.eq_false_iff.mp hready)]

/-- The call of a query's first command, as one record (R26, R27). -/
theorem startQuery_eq (pdrv code : Byte) (app : Bool) (idx : Index) :
    s.startQuery pdrv code app idx =
      { s with
        result := none, app := app, idx := idx, arg := 0#32
        seq := Seq.accepted (.ioctl pdrv code s.requestBuffer) .issue s.seq } := rfl

/-- Settles O4: `STATUS` has no gate but the sequencer's. -/
theorem statusOperation : Obligations.StatusOperation :=
  fun _ _ hidle => whenIdle_of_idle hidle _

/-- Settles O12: no gate refuses, and the card type chooses the command of the block size and of the SD status. -/
theorem queriesBegin : Obligations.QueriesBegin := by
  refine fun s hs => ⟨fun c hc => ?register, ?blockSize, ?sdStatus⟩
  case register =>
    have body : exec c.1 s = s.ioctlGate 0#8 (.next (s.startQuery 0#8 c.2.1 false c.2.2)) := by
      fin_cases hc <;> rfl
    rw [body, ioctlGate_of_ready hs, startQuery_eq]
  case blockSize =>
    change s.ioctlGate 0#8 _ = _
    rw [ioctlGate_of_ready hs, isSd2_eq]
    cases s.ct.getLsbD 2 <;> rfl
  case sdStatus =>
    change s.ioctlGate 0#8 _ = _
    rw [ioctlGate_of_ready hs, isSd2_eq]
    rfl

/-- Settles O13: no gate refuses, and none of the three calls a command. -/
theorem plainControlsBegin : Obligations.PlainControlsBegin := fun _ hs =>
  ⟨ioctlGate_of_ready hs _, ioctlGate_of_ready hs _, fun _ => ioctlGate_of_ready hs _⟩

end Sys2Proof.Machine
end

section
/-! PROOFS. O51, O52: `IOCTL.SYNC` and `IOCTL.GET_TYPE`, from the request to the result. -/

namespace Sys2Proof.Machine

variable {s : State} {k : Nat} {p code : Byte} {h : Nat}

/-- A request for a control code of drive 0 is taken up with its buffer on the request port (R90, R91). -/
theorem step_requestIoctl (h : Nat) (sector : Sector) (count code : Byte) (bytes : List Byte) :
    step ((s.letAnswer bytes).letRequest h (requestOf 4#3 0#8 sector count code) k) =
      exec (decodeIoctl 0#8 code) (({ s with requestBuffer := h } : State).scripted k bytes) := by
  have decoded : decode (.request (requestOf 4#3 0#8 sector count code)) = .ok (decodeIoctl 0#8 code) :=
    decode_requestOf _ _ _ _ _
  rw [step_request (buffer := h) rfl, takeUp, decoded]
  rfl

/-- The exit of an `IOCTL`: the closing `DESELECT`, then the result on the result port (R105, R197). -/
def State.ioctlEnded (d : Byte) (s : State) : State :=
  { s with
    cs := .deasserted, exchanges := s.exchanges + 1, trace := .exchange 0xFF#8 d :: .chipSelect .deasserted :: s.trace
    result := some (.code s.seq.res (if s.seq.res = .ok then s.seq.value else none))
    seq := { s.seq with busy := false, micro := .rest } }

theorem runFor_ioctlExit (hb : s.seq.busy = true) (hm : s.seq.micro = .deselectLatch .exit)
    (hop : s.seq.op = .ioctl p code h) (d : Byte) : runFor 2 (s.scripted 2 [d]) = .next (s.ioctlEnded d) :=
  (transferExit.1 s d ⟨hb, hm⟩).2 p code h hop

/-! ### `SYNC` (R186) -/

/-- The ready byte ends the `SELECT` of `SYNC`. -/
theorem step_readyPoll_sync_scripted (hb : s.seq.busy = true) (hop : s.seq.op = .ioctl p code h) (bytes : List Byte) :
    step ((s.goto (.readyPoll (.select .sync))).scripted (k + 1) (0xFF#8 :: bytes)) =
      .next (((s.exchanged [0xFF#8] [0xFF#8]).closeWith .ok).scripted k bytes) := by
  let polls := (s.goto (.readyPoll (.select .sync))).scripted k (0xFF#8 :: bytes)
  calc step ((s.goto (.readyPoll (.select .sync))).scripted (k + 1) (0xFF#8 :: bytes))
    _ = takeUp (.readyByte 0xFF#8) polls := step_scripted_wire _ (wireSignal_readyPoll hb rfl)
    _ = polls.takeReady := takeUp_readyByte _ _
    _ = .next ((polls.exchange 0xFF#8 0xFF#8).readyReturn (.select .sync) true) := takeReady_of_standsAt ⟨hb, rfl⟩
    _ = _ := congrArg Host.Outcome.next (readyReturn_sync_ready (s := polls.exchange 0xFF#8 0xFF#8) hop)

/-- `SYNC` of drive 0 is accepted, its `SELECT` to be made. -/
def State.syncAccepted (h : Nat) (s : State) : State :=
  { s with requestBuffer := h, result := none, seq := Seq.accepted (.ioctl 0#8 0#8 h) (.selectLatch .sync) s.seq }

theorem step_requestSync (hs : s.driveReady) (h : Nat) (sector : Sector) (count : Byte) (bytes : List Byte) :
    step ((s.letAnswer bytes).letRequest h (requestOf 4#3 0#8 sector count 0#8) k) =
      .next ((s.syncAccepted h).scripted k bytes) :=
  (step_requestIoctl h sector count 0#8 bytes).trans
    (plainControlsBegin (({ s with requestBuffer := h } : State).scripted k bytes) hs).1

/-- `SELECT` of a card that is ready at once, called by `SYNC` (R106, R107). -/
theorem runFor_selectSync (hb : s.seq.busy = true) (hop : s.seq.op = .ioctl p code h) (dummy : Byte)
    (rest : List Byte) :
    runFor (k + 4) ((s.goto (.selectLatch .sync)).scripted (k + 4) (dummy :: 0xFF#8 :: rest)) =
      runFor k (((s.selected dummy).closeWith .ok).scripted k rest) := by
  rw [runFor_succ_of_next (step_selectLatch_scripted hb _ _),
    runFor_succ_of_next (step_selectDummy_scripted (s := s.setCs .asserted) hb _ _ _),
    runFor_succ_of_next (step_readyArm_scripted (s := (s.setCs .asserted).exchanged [Config.fill] [dummy]) hb _ _),
    runFor_succ_of_next (step_readyPoll_sync_scripted
      (s := ((s.setCs .asserted).exchanged [Config.fill] [dummy]).arm2 Config.tReady) hb hop rest)]
  rfl

theorem selectReturn_sync_failed (hop : s.seq.op = .ioctl p code h) : s.selectReturn .sync false = s.close := by
  simp only [State.selectReturn, hop, Bool.false_eq_true, if_false]

/-- The wait of `SYNC` expired: the `DESELECT` of the failed `SELECT`, then the exit (R106, R107). -/
theorem runFor_syncExpired (hs : s.standsAt (.readyTest (.select .sync))) (hop : s.seq.op = .ioctl p code h)
    (ht : s.tmr2 = 0#16) (d : Byte) (bytes : List Byte) :
    runFor (k + 3) (s.scripted (k + 3) (d :: bytes)) =
      runFor k (((s.setCs .deasserted).exchanged [0xFF#8] [d]).close.scripted k bytes) := by
  let failed := s.goto (.deselectLatch (.selectFailed .sync))
  let released := (s.setCs .deasserted).goto (.deselectDummy (.selectFailed .sync))
  have test : step (s.scripted (k + 3) (d :: bytes)) = .next (failed.scripted (k + 2) (d :: bytes)) :=
    step_readyTest_expired (s := s.scripted (k + 3) (d :: bytes)) rfl hs ht
  have latch : step (failed.scripted (k + 2) (d :: bytes)) = .next (released.scripted (k + 1) (d :: bytes)) :=
    step_scripted_of_performs hs.1 (performs_deselectLatch rfl)
  have dummy : step (released.scripted (k + 1) (d :: bytes)) =
      .next (((s.setCs .deasserted).exchanged [0xFF#8] [d]).close.scripted k bytes) := by
    rw [step_scripted_of_performs (s := released) hs.1 (performs_deselectDummy rfl)]
    exact congrArg Host.Outcome.next (selectReturn_sync_failed hop)
  rw [runFor_succ_of_next test, runFor_succ_of_next latch, runFor_succ_of_next dummy]

/-- Settles O51: the request, the `SELECT` and the exit; and from the expired wait, the two `DESELECT`s. -/
theorem syncRun : Obligations.SyncRun := by
  refine ⟨fun s h sector count d0 d1 hs => ?ready, fun s p code d0 d1 h hs hop hres ht => ?expired⟩
  case ready =>
    have request := step_requestSync (k := 6) hs h sector count [d0, 0xFF#8, d1]
    have select := runFor_selectSync (k := 2) (s := s.syncAccepted h) rfl rfl d0 [d1]
    have exit := runFor_ioctlExit (s := ((s.syncAccepted h).selected d0).closeWith .ok) rfl rfl rfl d1
    rw [runFor_succ_of_next request]
    exact select.trans exit
  case expired =>
    have failed := runFor_syncExpired (k := 2) hs hop ht d0 [d1]
    have exit := runFor_ioctlExit (s := ((s.setCs .deasserted).exchanged [0xFF#8] [d0]).close) hs.1 rfl hop d1
    have error : (((s.setCs .deasserted).exchanged [0xFF#8] [d0]).close).seq.res = .error := hres
    refine (failed.trans exit).trans ?_
    rw [State.ioctlEnded, error]
    rfl

/-! ### `GET_TYPE` (R195) -/

/-- `GET_TYPE` of drive 0 into buffer `h` is accepted, its closing `DESELECT` to be made. -/
def State.typeStored (h : Nat) (s : State) : State :=
  { s with
    requestBuffer := h, result := none, buffers := Memory.write s.buffers (bufferCell h 0) s.ct
    seq := { Seq.accepted (.ioctl 0#8 3#8 h) (.deselectLatch .exit) s.seq with res := .ok } }

theorem step_requestGetType (hs : s.driveReady) (h : Nat) (sector : Sector) (count : Byte) (bytes : List Byte) :
    step ((s.letAnswer bytes).letRequest h (requestOf 4#3 0#8 sector count 3#8) k) =
      .next ((s.typeStored h).scripted k bytes) :=
  (step_requestIoctl h sector count 3#8 bytes).trans
    (plainControlsBegin (({ s with requestBuffer := h } : State).scripted k bytes) hs).2.1

/-- Settles O52: the request stores `CT`, and the exit is the closing `DESELECT`. -/
theorem getTypeRun : Obligations.GetTypeRun := by
  intro s h sector count d hs hwf
  have request := step_requestGetType (k := 2) hs h sector count [d]
  have exit := runFor_ioctlExit (s := s.typeStored h) rfl rfl rfl d
  exact ⟨_, (runFor_succ_of_next request).trans exit, Memory.read_write_same hwf _ _,
    fun _ hc => Memory.read_write_other hwf _ hc⟩

end Sys2Proof.Machine
end

section
/-! PROOFS. O31, O32, O33: the register block that a numeric query receives, and the number it delivers. -/

namespace Sys2Proof.Machine

variable {s : State} {k : Nat} {p code : Byte} {h : Nat}

/-! ### The block in `SCR` (R140, R187, R188) -/

theorem getElem_setBytes (scr : Vector Byte 16) (i : Nat) (bytes : List Byte) (j : Nat) (hj : j < 16) :
    (setBytes scr i bytes)[j] = if i ≤ j then bytes.getD (j - i) scr[j] else scr[j] := by
  induction bytes generalizing scr i with
  | nil => simp [setBytes]
  | cons b bytes ih =>
    rw [setBytes, ih, Vector.getElem_setIfInBounds]
    obtain hlt | rfl | hgt := Nat.lt_trichotomy i j
    · have shift : j - i = j - (i + 1) + 1 := by omega
      rw [if_pos (Nat.succ_le_of_lt hlt), if_pos hlt.le, if_neg hlt.ne, shift, List.getD_cons_succ]
    · simp
    · simp [Nat.not_le.mpr hgt, Nat.not_le.mpr (Nat.lt_succ_of_lt hgt), hgt.ne']

/-- Sixteen bytes written from the first on replace the whole of `SCR`. -/
theorem setBytes_toList (scr block : Vector Byte 16) : setBytes scr 0 block.toList = block := by
  ext j hj
  simp [getElem_setBytes, hj]

/-- Payload bytes arrived, and were put in `SCR` from byte `i` on. -/
def State.receivedScr (i : Nat) (bytes : List Byte) (s : State) : State :=
  { s.heard bytes with scr := setBytes s.scr i bytes }

theorem receivedScr_cons (i : Nat) (b : Byte) (bytes : List Byte) :
    (s.receivedScr i [b]).receivedScr (i + 1) bytes = s.receivedScr i (b :: bytes) := by
  have listened := heard_heard (s := s) [b] bytes
  calc (s.receivedScr i [b]).receivedScr (i + 1) bytes
    _ = { (s.heard [b]).heard bytes with scr := setBytes s.scr i (b :: bytes) } := rfl
    _ = s.receivedScr i (b :: bytes) := by rw [listened]; rfl

theorem receivedScr_goto (m : Micro) (i : Nat) (bytes : List Byte) :
    (s.goto m).receivedScr i bytes = (s.receivedScr i bytes).goto m := rfl

theorem payloadInStep_of_scr {i : Nat} (hplace : s.seq.op.payloadOffset s.seq.moved i = none) :
    s.payloadInStep i = .next (((s.send Config.fill).setScr i s.reply).afterPayloadIn i) := by
  simp only [State.payloadInStep, hplace]

theorem step_payloadIn_scr_scripted {i : Nat} (hs : s.standsAt (.payloadIn i))
    (hplace : s.seq.op.payloadOffset s.seq.moved i = none) (b : Byte) (bytes : List Byte) :
    step (s.scripted (k + 1) (b :: bytes)) = .next (((s.receivedScr i [b]).afterPayloadIn i).scripted k bytes) := by
  obtain ⟨hb, hm⟩ := hs
  calc step (s.scripted (k + 1) (b :: bytes))
    _ = (s.scripted k (b :: bytes)).primitive := step_scripted_primitive _ hb (wireSignal_payloadIn hm)
    _ = (s.scripted k (b :: bytes)).payloadInStep i := primitive_payloadIn hm
    _ = .next ((((s.scripted k (b :: bytes)).send Config.fill).setScr i b).afterPayloadIn i) :=
      payloadInStep_of_scr (s := s.scripted k (b :: bytes)) hplace
    _ = _ := congrArg _ (afterPayloadIn_scripted (s.receivedScr i [b]) i bytes)

/-- The payload of a block kept in `SCR`, from byte `i` on: it ends before the two CRC bytes. -/
theorem runFor_payloadIn_scr (rest payload : List Byte) (hne : payload ≠ []) {i : Nat}
    (hs : s.standsAt (.payloadIn i)) (hlen : i + payload.length = s.seq.op.blockLen)
    (hplace : ∀ j, s.seq.op.payloadOffset s.seq.moved j = none) :
    runFor (payload.length + k) (s.scripted (payload.length + k) (payload ++ rest)) =
      runFor k (((s.receivedScr i payload).goto (.crcIn Config.crcLen)).scripted k rest) := by
  induction payload generalizing s i with
  | nil => exact absurd rfl hne
  | cons b payload ih =>
    rw [List.length_cons] at hlen
    have first := step_payloadIn_scr_scripted (k := payload.length + k) hs (hplace i) b (payload ++ rest)
    rw [List.length_cons, Nat.succ_add, List.cons_append, runFor_succ_of_next first]
    cases payload with
    | nil =>
      rw [afterPayloadIn_last (s := s.receivedScr _ _) hlen, List.length_nil, Nat.zero_add, List.nil_append]
    | cons c payload =>
      have more : i + 1 < s.seq.op.blockLen := by rw [← hlen, List.length_cons]; omega
      rw [afterPayloadIn_of_lt (s := s.receivedScr _ _) more,
        ih (s := (s.receivedScr i [b]).goto (.payloadIn (i + 1))) nofun ⟨hs.1, rfl⟩
          (by rw [Nat.add_assoc, Nat.add_comm 1]; exact hlen) hplace,
        receivedScr_goto, State.goto_goto, receivedScr_cons]

/-- A start token, 16 bytes that stand in `SCR`, and then these bytes arrived. -/
def State.blockInScr (block : Vector Byte 16) (rest : List Byte) (s : State) : State :=
  { s.heard (0xFE#8 :: block.toList ++ rest) with scr := block }

@[simp] theorem blockInScr_ct (block : Vector Byte 16) (rest : List Byte) : (s.blockInScr block rest).ct = s.ct := rfl
@[simp] theorem blockInScr_scr (block : Vector Byte 16) (rest : List Byte) :
    (s.blockInScr block rest).scr = block := rfl
@[simp] theorem blockInScr_frees (block : Vector Byte 16) (rest : List Byte) :
    (s.blockInScr block rest).frees = s.frees := rfl

theorem blockInScr_scripted (block : Vector Byte 16) (rest bytes : List Byte) :
    (s.scripted k bytes).blockInScr block rest = (s.blockInScr block rest).scripted k bytes := rfl

theorem blockInScr_heard (block : Vector Byte 16) (rest more : List Byte) :
    (s.blockInScr block rest).heard more = s.blockInScr block (rest ++ more) := by
  have listened := heard_heard (s := s) (0xFE#8 :: block.toList ++ rest) more
  rw [List.append_assoc] at listened
  exact congrArg (fun u : State => { u with scr := block }) listened

theorem blockInScr_eq (block : Vector Byte 16) {rest : List Byte} {n : Nat} (hn : rest.length + 17 = n) :
    s.blockInScr block rest =
      { s with
        scr := block, exchanges := s.exchanges + n
        trace := exchangesOf (List.replicate n 0xFF#8) (0xFE#8 :: block.toList ++ rest) ++ s.trace } := by
  have trace := exchangesOf_replicate Config.fill (0xFE#8 :: block.toList ++ rest)
  have length : (0xFE#8 :: block.toList ++ rest).length = n := by simp; omega
  rw [length] at trace
  rw [State.blockInScr, State.heard, ← trace, length]

theorem receivedScr_block (block : Vector Byte 16) :
    (s.heard [0xFE#8]).receivedScr 0 block.toList = s.blockInScr block [] := by
  have listened := heard_heard (s := s) [0xFE#8] block.toList
  rw [State.receivedScr, setBytes_toList, listened, State.blockInScr, List.append_nil]
  rfl

/-- `RECVBLOCK` of a numeric query from the accepted token on, up to what its caller does with the block. -/
theorem runFor_blockInScr (hs : s.standsAt .tokenPoll) (hop : s.seq.op = .ioctl p code h)
    (hcode : code = 1#8 ∨ code = 2#8) (block : Vector Byte 16) (c0 c1 : Byte) :
    runFor 19 (s.scripted 19 (0xFE#8 :: block.toList ++ [c0, c1])) =
      .next (((s.blockInScr block [c0, c1]).goto (.crcIn 1)).blockInReturn true) := by
  have length : block.toList.length = 16 := by simp
  have blockLen : s.seq.op.blockLen = 16 := by
    rw [hop]
    obtain rfl | rfl := hcode <;> rfl
  have place (j : Nat) : s.seq.op.payloadOffset s.seq.moved j = none := by
    rw [hop]
    exact if_pos hcode
  have token := step_tokenPoll_scripted (k := 18) hs (block.toList ++ [c0, c1])
  have payload := runFor_payloadIn_scr (k := 2) (s := (s.heard [0xFE#8]).goto (.payloadIn 0)) [c0, c1]
    block.toList (List.ne_nil_of_length_pos (by simp)) ⟨hs.1, rfl⟩
    (by rw [length]; exact blockLen.symm) place
  have crc := runFor_crcIn (s := (s.blockInScr block []).goto (.crcIn Config.crcLen)) ⟨hs.1, rfl⟩ c0 c1
  rw [length, receivedScr_goto, State.goto_goto, receivedScr_block] at payload
  rw [heard_goto, blockInScr_heard, State.goto_goto, List.nil_append] at crc
  exact ((runFor_succ_of_next token).trans payload).trans crc

end Sys2Proof.Machine
end

section
/-! PROOFS. The numbers of R187 to R190 in plain arithmetic. -/

namespace Sys2Proof.Machine

variable {csd : Vector Byte 16}

/-! ### The fields of a register byte (R83, R84) -/

@[simp] theorem toNat_wide (b : Byte) : (wide b).toNat = b.toNat :=
  BitVec.toNat_setWidth_of_le (by decide)

/-- The low `n` bits. -/
theorem toNat_and_low {b m : Byte} (n : Nat) (hm : m.toNat = 2 ^ n - 1) : (b &&& m).toNat = b.toNat % 2 ^ n := by
  rw [BitVec.toNat_and, hm, Nat.and_two_pow_sub_one_eq_mod]

/-- The `n` bits from bit `k` on, shifted down. -/
theorem toNat_wide_and_shiftRight {b m : Byte} (n k : Nat) (hm : m.toNat / 2 ^ k = 2 ^ n - 1) :
    (wide (b &&& m) >>> k).toNat = b.toNat / 2 ^ k % 2 ^ n := by
  rw [BitVec.toNat_ushiftRight, toNat_wide, Nat.shiftRight_eq_div_pow, BitVec.toNat_and, Nat.and_div_two_pow, hm,
    Nat.and_two_pow_sub_one_eq_mod]

theorem toNat_shiftRight {w : Nat} (x : BitVec w) (k : Nat) : (x >>> k).toNat = x.toNat / 2 ^ k := by
  rw [BitVec.toNat_ushiftRight, Nat.shiftRight_eq_div_pow]

/-- A shift wraps in its 32 bits (R83). -/
theorem toNat_shiftLeft (x : Word32) (k : Nat) : (x <<< k).toNat = x.toNat * 2 ^ k % 2 ^ 32 := by
  rw [BitVec.toNat_shiftLeft, Nat.shiftLeft_eq]

theorem toNat_succ_shiftLeft (x : Word32) (k : Nat) :
    ((x + 1#32) <<< k).toNat = (x.toNat + 1) * 2 ^ k % 2 ^ 32 := by
  rw [toNat_shiftLeft, BitVec.toNat_add]
  exact (Nat.mod_modEq (x.toNat + 1) (2 ^ 32)).mul_right (2 ^ k)

/-- Fields that do not overlap are joined without a carry. -/
theorem toNat_shiftLeft_or {x y : Word32} (k : Nat) (hx : x.toNat * 2 ^ k < 2 ^ 32) (hy : y.toNat < 2 ^ k) :
    ((x <<< k) ||| y).toNat = x.toNat * 2 ^ k + y.toNat := by
  rw [BitVec.toNat_or, toNat_shiftLeft, Nat.mod_eq_of_lt hx, ← Nat.shiftLeft_eq, ← Nat.shiftLeft_add_eq_or_of_lt hy]

/-! ### `GET_SECTOR_COUNT` (R187) -/

theorem toNat_csdVersion : (csdVersion csd).toNat = csd[0].toNat / 64 := toNat_shiftRight _ 6

theorem toNat_csdExponentV1 :
    (csdExponentV1 csd).toNat = csd[5].toNat % 16 + csd[10].toNat / 128 + csd[9].toNat % 4 * 2 + 2 := by
  have bound := csd[10].isLt
  simp only [csdExponentV1, BitVec.toNat_add, toNat_shiftLeft, toNat_wide, toNat_and_low (m := 15#8) 4 rfl,
    toNat_and_low (m := 3#8) 2 rfl, toNat_wide_and_shiftRight (m := 128#8) 1 7 rfl, BitVec.toNat_ofNat]
  omega

theorem toNat_csdSizeV1 :
    (csdSizeV1 csd).toNat = csd[8].toNat / 64 + csd[7].toNat * 4 + csd[6].toNat % 4 * 1024 := by
  have bound7 := csd[7].isLt
  have bound8 := csd[8].isLt
  simp only [csdSizeV1, BitVec.toNat_add, toNat_shiftLeft, toNat_shiftRight, toNat_wide,
    toNat_and_low (m := 3#8) 2 rfl]
  omega

theorem toNat_csdSizeV2 :
    (csdSizeV2 csd).toNat = csd[7].toNat % 64 * 65536 + csd[8].toNat * 256 + csd[9].toNat := by
  have bound8 := csd[8].isLt
  have bound9 := csd[9].isLt
  have high : (wide (csd[7] &&& 63#8)).toNat = csd[7].toNat % 64 := (toNat_wide _).trans (toNat_and_low 6 rfl)
  have low : ((wide csd[8] <<< 8) ||| wide csd[9]).toNat = csd[8].toNat * 256 + csd[9].toNat := by
    rw [toNat_shiftLeft_or 8 (by rw [toNat_wide]; omega) (by rw [toNat_wide]; omega), toNat_wide, toNat_wide]
    rfl
  rw [csdSizeV2, BitVec.or_assoc, toNat_shiftLeft_or 16 (by omega) (by omega), high, low]
  omega

theorem sectorCount_v2 (hv : 1 ≤ csd[0].toNat / 64) : sectorCount csd = some ((csdSizeV2 csd + 1#32) <<< 10) :=
  if_pos (by rw [BitVec.le_def, toNat_csdVersion]; exact hv)

theorem sectorCount_v1 (hv : csd[0].toNat / 64 = 0) :
    sectorCount csd =
      if (csdExponentV1 csd).toNat < 9 then none
      else some ((csdSizeV1 csd + 1#32) <<< ((csdExponentV1 csd).toNat - 9)) :=
  if_neg (by rw [BitVec.le_def, toNat_csdVersion, hv]; decide)

theorem sectorCount_eq_none_iff :
    sectorCount csd = none ↔ csd[0].toNat / 64 = 0 ∧ (csdExponentV1 csd).toNat < 9 := by
  by_cases hv : csd[0].toNat / 64 = 0
  · simp [sectorCount_v1 hv, hv]
  · simp [sectorCount_v2 (Nat.pos_of_ne_zero hv), hv]

theorem toNat_sectorCount_v2 (hv : 1 ≤ csd[0].toNat / 64) (free : Word32) :
    ((sectorCount csd).getD free).toNat =
      (csd[7].toNat % 64 * 65536 + csd[8].toNat * 256 + csd[9].toNat + 1) * 2 ^ 10 % 2 ^ 32 := by
  rw [sectorCount_v2 hv, Option.getD_some, toNat_succ_shiftLeft, toNat_csdSizeV2]

theorem toNat_sectorCount_v1 (hv : csd[0].toNat / 64 = 0) (he : 9 ≤ (csdExponentV1 csd).toNat) (free : Word32) :
    ((sectorCount csd).getD free).toNat =
      (csd[8].toNat / 64 + csd[7].toNat * 4 + csd[6].toNat % 4 * 1024 + 1) *
        2 ^ ((csdExponentV1 csd).toNat - 9) % 2 ^ 32 := by
  rw [sectorCount_v1 hv, if_neg (Nat.not_lt.mpr he), Option.getD_some, toNat_succ_shiftLeft, toNat_csdSizeV1]

/-! ### `GET_BLOCK_SIZE` (R188 to R190) -/

theorem eraseSizeSd2_eq (status : Vector Byte 16) :
    eraseSizeSd2 status = BitVec.ofNat 32 (16 * 2 ^ (status[10].toNat / 16)) := by
  apply BitVec.eq_of_toNat_eq
  rw [eraseSizeSd2, toNat_shiftLeft, toNat_shiftRight, BitVec.toNat_ofNat, BitVec.toNat_ofNat]
  rfl

theorem toNat_shiftRight_eq_zero {b : Byte} {k : Nat} : b >>> k = 0#8 ↔ b.toNat / 2 ^ k = 0 := by
  rw [← toNat_shiftRight, BitVec.toNat_eq]
  rfl

theorem eraseSizeSd1_eq_none_iff : eraseSizeSd1 csd = none ↔ csd[13].toNat / 64 = 0 := by
  rw [eraseSizeSd1, ite_eq_left_iff]
  simp [toNat_shiftRight_eq_zero]

/-- The size of an SD-v1 card (R189), which does not wrap. -/
theorem toNat_eraseSizeSd1 (hshift : 1 ≤ csd[13].toNat / 64) (free : Word32) :
    ((eraseSizeSd1 csd).getD free).toNat =
      (csd[10].toNat % 64 * 2 + csd[11].toNat / 128 + 1) * 2 ^ (csd[13].toNat / 64 - 1) := by
  have defined : csd[13] >>> 6 ≠ 0#8 := mt toNat_shiftRight_eq_zero.mp (Nat.ne_of_gt hshift)
  have bound11 := csd[11].isLt
  have bound13 := csd[13].isLt
  have high : (wide (csd[10] &&& 63#8)).toNat = csd[10].toNat % 64 := (toNat_wide _).trans (toNat_and_low 6 rfl)
  have low : (wide csd[11] >>> 7).toNat = csd[11].toNat / 128 :=
    (toNat_shiftRight _ 7).trans (congrArg (· / 128) (toNat_wide _))
  have units : (((wide (csd[10] &&& 63#8) <<< 1) ||| (wide csd[11] >>> 7)) + 1#32).toNat =
      csd[10].toNat % 64 * 2 + csd[11].toNat / 128 + 1 := by
    rw [BitVec.toNat_add, toNat_shiftLeft_or 1 (by omega) (by omega), high, low, BitVec.toNat_ofNat]
    omega
  have scale : 2 ^ (csd[13].toNat / 64 - 1) ≤ 2 ^ 2 := Nat.pow_le_pow_right (by decide) (by omega)
  rw [eraseSizeSd1, if_neg defined, Option.getD_some, toNat_shiftLeft, units, toNat_shiftRight]
  exact Nat.mod_eq_of_lt (lt_of_le_of_lt (Nat.mul_le_mul (by omega : _ ≤ 128) scale) (by decide))

/-- The size of an MMC card (R190), which does not wrap. -/
theorem toNat_eraseSizeMmc :
    (eraseSizeMmc csd).toNat =
      (csd[10].toNat / 4 % 32 + 1) * (csd[11].toNat % 4 * 8 + csd[11].toNat / 32 + 1) := by
  have bound11 := csd[11].isLt
  have high : (wide (csd[11] &&& 3#8)).toNat = csd[11].toNat % 4 := (toNat_wide _).trans (toNat_and_low 2 rfl)
  have low : (wide (csd[11] &&& 224#8) >>> 5).toNat = csd[11].toNat / 32 := by
    rw [toNat_wide_and_shiftRight 3 5 rfl]
    omega
  have size : ((wide (csd[10] &&& 124#8) >>> 2) + 1#32).toNat = csd[10].toNat / 4 % 32 + 1 := by
    rw [BitVec.toNat_add, toNat_wide_and_shiftRight 5 2 rfl, BitVec.toNat_ofNat]
    omega
  have mult : (((wide (csd[11] &&& 3#8) <<< 3) ||| (wide (csd[11] &&& 224#8) >>> 5)) + 1#32).toNat =
      csd[11].toNat % 4 * 8 + csd[11].toNat / 32 + 1 := by
    rw [BitVec.toNat_add, toNat_shiftLeft_or 3 (by omega) (by omega), high, low, BitVec.toNat_ofNat]
    omega
  rw [eraseSizeMmc, BitVec.toNat_mul, size, mult]
  exact Nat.mod_eq_of_lt (lt_of_le_of_lt (Nat.mul_le_mul (by omega : _ ≤ 32) (by omega : _ ≤ 32)) (by decide))

theorem eraseSizeCsd_eq (ct : Byte) (csd : Vector Byte 16) :
    eraseSizeCsd ct csd = if ct.getLsbD 1 then eraseSizeSd1 csd else some (eraseSizeMmc csd) := by
  have sd1 : isSd1 ct = ct.getLsbD 1 := by revert ct; decide
  rw [eraseSizeCsd, sd1]

theorem eraseSizeCsd_eq_none_iff {ct : Byte} :
    eraseSizeCsd ct csd = none ↔ ct.getLsbD 1 = true ∧ csd[13].toNat / 64 = 0 := by
  rw [eraseSizeCsd_eq]
  cases ct.getLsbD 1 with
  | false => exact iff_of_false nofun nofun
  | true => exact eraseSizeSd1_eq_none_iff.trans (and_iff_right rfl).symm

end Sys2Proof.Machine
end

section
/-! PROOFS. O31, O32, O33: the numeric queries, from the start token to the result. -/

namespace Sys2Proof.Machine

variable {s : State} {k : Nat} {p code : Byte} {h : Nat}

/-! ### What a script leaves unchanged -/

@[simp] theorem scripted_ct (bytes : List Byte) : (s.scripted k bytes).ct = s.ct := rfl
@[simp] theorem scripted_scr (bytes : List Byte) : (s.scripted k bytes).scr = s.scr := rfl
@[simp] theorem scripted_frees (bytes : List Byte) : (s.scripted k bytes).frees = s.frees := rfl

theorem heard_scripted (bytes more : List Byte) :
    (s.scripted k bytes).heard more = (s.heard more).scripted k bytes := rfl

/-! ### What the query does with its block (R187, R188) -/

/-- The number of `GET_SECTOR_COUNT`, or of `GET_BLOCK_SIZE` where the card is no SD-v2; none where it is undefined. -/
def queryNumber (code ct : Byte) (csd : Vector Byte 16) : Option Word32 :=
  if code = 1#8 then sectorCount csd else eraseSizeCsd ct csd

theorem blockInReturn_number (hop : s.seq.op = .ioctl p code h)
    (hcode : code = 1#8 ∨ code = 2#8 ∧ s.ct.getLsbD 2 = false) :
    s.blockInReturn true = s.closeWithValue (queryNumber code s.ct s.scr) := by
  simp only [State.blockInReturn, hop, State.queryBlock, queryNumber, isSd2_eq]
  obtain rfl | ⟨rfl, hct⟩ := hcode
  · rfl
  · rw [hct]
    rfl

theorem blockInReturn_sd2 (hop : s.seq.op = .ioctl p 2#8 h) (hct : s.ct.getLsbD 2 = true) :
    s.blockInReturn true = s.goto (.purge 48) := by
  simp only [State.blockInReturn, hop, State.queryBlock, isSd2_eq, hct]
  rfl

/-- A query has its number, and goes on to its closing `DESELECT` (R185). -/
def State.closedWithNumber (frees : Nat) (v : Word32) (s : State) : State :=
  { s with frees := frees, seq := { s.seq with res := .ok, value := some v, micro := .deselectLatch .exit } }

theorem closedWithNumber_goto (m : Micro) (frees : Nat) (v : Word32) :
    (s.goto m).closedWithNumber frees v = s.closedWithNumber frees v := rfl

theorem closedWithNumber_scripted (bytes : List Byte) (frees : Nat) (v : Word32) :
    (s.scripted k bytes).closedWithNumber frees v = (s.closedWithNumber frees v).scripted k bytes := rfl

/-- An undefined number is a free value, drawn once (U2, U3). -/
theorem closeWithValue_eq {undefined : Prop} [Decidable undefined] {number : Option Word32}
    (hn : number = none ↔ undefined) :
    s.closeWithValue number =
      s.closedWithNumber (if undefined then s.frees + 1 else s.frees) (number.getD (Config.freeValue s.frees)) := by
  cases number with
  | none => rw [if_pos (hn.mp rfl)]; rfl
  | some v => rw [if_neg (mt hn.mpr nofun)]; rfl

theorem blockInReturn_csd (hop : s.seq.op = .ioctl p code h) (hcode : code = 1#8 ∨ code = 2#8 ∧ s.ct.getLsbD 2 = false)
    {undefined : Prop} [Decidable undefined] (hn : queryNumber code s.ct s.scr = none ↔ undefined) :
    s.blockInReturn true =
      s.closedWithNumber (if undefined then s.frees + 1 else s.frees)
        ((queryNumber code s.ct s.scr).getD (Config.freeValue s.frees)) := by
  rw [blockInReturn_number hop hcode, closeWithValue_eq hn]

/-- A numeric query that reads the CSD, from its start token to its result. -/
theorem runFor_csdQuery (hs : s.standsAt .tokenPoll) (hop : s.seq.op = .ioctl p code h)
    (hcode : code = 1#8 ∨ code = 2#8 ∧ s.ct.getLsbD 2 = false) (csd : Vector Byte 16) (c0 c1 d : Byte)
    {undefined : Prop} [Decidable undefined] (hn : queryNumber code s.ct csd = none ↔ undefined) :
    runFor 21 (s.scripted 21 (0xFE#8 :: csd.toList ++ [c0, c1, d])) =
      .next (((s.blockInScr csd [c0, c1]).closedWithNumber (if undefined then s.frees + 1 else s.frees)
        ((queryNumber code s.ct csd).getD (Config.freeValue s.frees))).ioctlEnded d) := by
  have block := runFor_blockInScr (s := s.scripted 2 [d]) hs hop (hcode.imp_right And.left) csd c0 c1
  have exit := runFor_ioctlExit (s := (s.blockInScr csd [c0, c1]).closedWithNumber
    (if undefined then s.frees + 1 else s.frees) ((queryNumber code s.ct csd).getD (Config.freeValue s.frees)))
    hs.1 rfl hop d
  have script : 0xFE#8 :: csd.toList ++ [c0, c1, d] = (0xFE#8 :: csd.toList ++ [c0, c1]) ++ [d] :=
    (List.append_assoc _ [c0, c1] [d]).symm
  have number := blockInReturn_csd (s := ((s.blockInScr csd [c0, c1]).scripted 2 [d]).goto (.crcIn 1))
    (undefined := undefined) hop (by simpa using hcode) (by simpa using hn)
  simp only [State.goto_ct, State.goto_scr, State.goto_frees, scripted_ct, scripted_scr, scripted_frees, blockInScr_ct,
    blockInScr_scr, blockInScr_frees, closedWithNumber_goto, closedWithNumber_scripted] at number
  rw [blockInScr_scripted, number] at block
  rw [script]
  exact (runFor_append [d] block).trans exit

/-- Settles O31: the block, the number by the CSD version, and the exit. -/
theorem sectorCountDelivered : Obligations.SectorCountDelivered := by
  intro s p h csd c0 c1 d hs hop b e
  have exponent : (csdExponentV1 csd).toNat = e := toNat_csdExponentV1
  have undefined : sectorCount csd = none ↔ b 0 / 64 = 0 ∧ e < 9 := exponent ▸ sectorCount_eq_none_iff
  have run := runFor_csdQuery hs hop (.inl rfl) csd c0 c1 d undefined
  rw [blockInScr_eq csd (n := 19) rfl] at run
  refine ⟨(sectorCount csd).getD (Config.freeValue s.frees), run, fun hv => ?v2, fun hv he => ?v1, fun hv he => ?free⟩
  case v2 => exact toNat_sectorCount_v2 hv _
  case v1 => exact exponent ▸ toNat_sectorCount_v1 hv (exponent ▸ he) _
  case free => rw [undefined.mpr ⟨hv, he⟩, Option.getD_none]

/-- Settles O33: the block, the number by the card type, and the exit. -/
theorem eraseSizeOfCsd : Obligations.EraseSizeOfCsd := by
  intro s p h csd c0 c1 d hs hop hct b
  have undefined : eraseSizeCsd s.ct csd = none ↔ s.ct.getLsbD 1 = true ∧ b 13 / 64 = 0 := eraseSizeCsd_eq_none_iff
  have run := runFor_csdQuery hs hop (.inr ⟨rfl, hct⟩) csd c0 c1 d undefined
  rw [blockInScr_eq csd (n := 19) rfl] at run
  refine ⟨(eraseSizeCsd s.ct csd).getD (Config.freeValue s.frees), run, fun hsd1 hv => ?sd1, fun hsd1 hv => ?free,
    fun hmmc => ?mmc⟩
  case sd1 =>
    rw [eraseSizeCsd_eq, if_pos hsd1]
    exact toNat_eraseSizeSd1 hv _
  case free => rw [undefined.mpr ⟨hsd1, hv⟩, Option.getD_none]
  case mmc =>
    rw [eraseSizeCsd_eq, if_neg (Bool.eq_false_iff.mp hmmc)]
    exact toNat_eraseSizeMmc

/-! ### The SD status (R188) -/

theorem wireSignal_purge {left : Nat} (hm : s.seq.micro = .purge left) : s.wireSignal = none := by
  simp [State.wireSignal, hm]

theorem primitive_purge_of_lt {left : Nat} (hm : s.seq.micro = .purge left) (hl : 1 < left) :
    s.primitive = .next ((s.send Config.fill).goto (.purge (left - 1))) := by
  simp only [State.primitive, hm, if_neg (Nat.not_le.mpr hl)]

theorem primitive_purge_last (hm : s.seq.micro = .purge 1) :
    s.primitive = .next (s.send Config.fill).purgeReturn := by
  simp only [State.primitive, hm, if_pos (Nat.le_refl 1)]

theorem purgeReturn_ioctl (hop : s.seq.op = .ioctl p code h) :
    s.purgeReturn = s.closedWithNumber s.frees (eraseSizeSd2 s.scr) := by
  simp only [State.purgeReturn, hop]
  rfl

/-- The purged bytes are dropped, and the number is derived from what stands in `SCR`. -/
theorem runFor_purge {bytes : List Byte} (hne : bytes ≠ []) (hs : s.standsAt (.purge bytes.length))
    (hop : s.seq.op = .ioctl p code h) :
    runFor bytes.length (s.scripted bytes.length bytes) =
      .next ((s.heard bytes).closedWithNumber s.frees (eraseSizeSd2 s.scr)) := by
  induction bytes generalizing s with
  | nil => exact absurd rfl hne
  | cons b bytes ih =>
    obtain ⟨hb, hm⟩ := hs
    cases bytes with
    | nil =>
      have last : step (s.scripted 1 [b]) = .next (s.heard [b]).purgeReturn :=
        step_scripted_of_performs (k := 0) hb
          ⟨wireSignal_purge (s := s.scripted 0 [b]) hm, primitive_purge_last (s := s.scripted 0 [b]) hm⟩
      rw [List.length_singleton, runFor_succ_of_next last, runFor_zero, purgeReturn_ioctl (s := s.heard [b]) hop]
      rfl
    | cons c bytes =>
      have more : step (s.scripted (bytes.length + 2) (b :: c :: bytes)) =
          .next (((s.heard [b]).goto (.purge (bytes.length + 1))).scripted (bytes.length + 1) (c :: bytes)) :=
        step_scripted_of_performs hb ⟨wireSignal_purge hm,
          primitive_purge_of_lt (s := s.scripted (bytes.length + 1) (b :: c :: bytes)) hm (by simp)⟩
      have rest := ih (s := (s.heard [b]).goto (.purge (bytes.length + 1))) nofun ⟨hb, rfl⟩ hop
      rw [heard_goto, heard_heard, closedWithNumber_goto] at rest
      exact (runFor_succ_of_next more).trans rest

/-- The first 16 bytes of the SD status of an SD-v2 card arrived, and the purge begins. -/
theorem runFor_sdStatusHead (hs : s.standsAt .tokenPoll) (hop : s.seq.op = .ioctl p 2#8 h)
    (hct : s.ct.getLsbD 2 = true) (status : Vector Byte 16) (c0 c1 : Byte) (rest : List Byte) :
    runFor (19 + k) (s.scripted (19 + k) (0xFE#8 :: status.toList ++ [c0, c1] ++ rest)) =
      runFor k (((s.blockInScr status [c0, c1]).goto (.purge 48)).scripted k rest) := by
  have block := runFor_blockInScr (s := s.scripted k rest) hs hop (.inr rfl) status c0 c1
  have purge := blockInReturn_sd2 (s := ((s.blockInScr status [c0, c1]).scripted k rest).goto (.crcIn 1)) hop
    (by simpa using hct)
  rw [blockInScr_scripted, purge, State.goto_goto, ← scripted_goto] at block
  exact runFor_append rest block

/-- The 48 bytes of the purge, and the exit. -/
theorem runFor_purgeExit (hs : s.standsAt (.purge 48)) (hop : s.seq.op = .ioctl p code h) {bytes : List Byte}
    (hlen : bytes.length = 48) (d : Byte) :
    runFor 50 (s.scripted 50 (bytes ++ [d])) =
      .next (((s.heard bytes).closedWithNumber s.frees (eraseSizeSd2 s.scr)).ioctlEnded d) := by
  have purge := runFor_purge (s := s.scripted 2 [d]) (bytes := bytes) (List.ne_nil_of_length_pos (by omega))
    (hlen ▸ hs) hop
  have exit := runFor_ioctlExit (s := (s.heard bytes).closedWithNumber s.frees (eraseSizeSd2 s.scr)) hs.1 rfl hop d
  rw [hlen, scripted_frees, scripted_scr, heard_scripted, closedWithNumber_scripted] at purge
  exact (runFor_append [d] purge).trans exit

/-- Settles O32: the block, the purge and the exit. -/
theorem eraseSizeOfSd2 : Obligations.EraseSizeOfSd2 := by
  intro s p h status rest d hs hop hct hlen v
  obtain ⟨c0, c1, purged, rfl⟩ : ∃ c0 c1 purged, rest = c0 :: c1 :: purged := by
    match rest, hlen with
    | c0 :: c1 :: purged, _ => exact ⟨c0, c1, purged, rfl⟩
  have head := runFor_sdStatusHead (k := 50) hs hop hct status c0 c1 (purged ++ [d])
  have tail := runFor_purgeExit (s := (s.blockInScr status [c0, c1]).goto (.purge 48)) ⟨hs.1, rfl⟩ hop
    (Nat.succ.inj (Nat.succ.inj hlen)) d
  have script : 0xFE#8 :: status.toList ++ c0 :: c1 :: purged ++ [d] =
      0xFE#8 :: status.toList ++ [c0, c1] ++ (purged ++ [d]) := by simp
  have received := blockInScr_eq (s := s) status (rest := [c0, c1] ++ purged) (congrArg (· + 17) hlen)
  rw [heard_goto, closedWithNumber_goto, blockInScr_heard, received, State.goto_scr, blockInScr_scr,
    eraseSizeSd2_eq] at tail
  rw [script]
  exact head.trans tail

end Sys2Proof.Machine
end

section
/-! PROOFS. O34, O35: what a tick does (R205), and who changes the two counters (R206). -/

namespace Sys2Proof.Machine

variable {s t : State}

/-! ### The tick -/

/-- Settles O34: `TICK` decrements with `countDown` and samples with `DriveStatus.sampled`, both written out here. -/
theorem tickSamplesAndCounts : Obligations.TickSamplesAndCounts := fun _ => rfl

theorem toNat_countDown (c : Counter) : (countDown c).toNat = c.toNat - 1 := by
  unfold countDown
  split
  · next hc => simp [hc]
  · next hc =>
    have hpos : c.toNat ≠ 0 := fun h0 => hc (BitVec.eq_of_toNat_eq h0)
    exact BitVec.toNat_sub_of_le (BitVec.le_def.mpr (Nat.one_le_iff_ne_zero.mpr hpos))

theorem toNat_countDown_succ {c : Counter} (h : countDown c ≠ c) : (countDown c).toNat + 1 = c.toNat := by
  have hc : c.toNat ≠ 0 := fun hc => h (BitVec.eq_of_toNat_eq (by rw [toNat_countDown, hc]))
  rw [toNat_countDown]
  omega

theorem step_tick_cons {rest : List Event} (h : s.agenda = .tick :: rest) :
    ∃ t, step s = .next t ∧ t.agenda = rest ∧ t.tmr1 = countDown s.tmr1 ∧ t.tmr2 = countDown s.tmr2 ∧
      t.seq = s.seq ∧ t.trace = s.trace := by
  rw [step_tick (State.nextEvent_cons _ _ _ h), State.popEvent_cons _ _ _ h]
  exact ⟨_, rfl, rfl, rfl, rfl, rfl, rfl⟩

theorem runFor_ticks {rest : List Event} (k : Nat) (h : s.agenda = List.replicate k .tick ++ rest) :
    ∃ t, runFor k s = .next t ∧ t.tmr1.toNat = s.tmr1.toNat - k ∧ t.tmr2.toNat = s.tmr2.toNat - k ∧
      t.seq = s.seq ∧ t.trace = s.trace := by
  induction k generalizing s with
  | zero => exact ⟨s, rfl, rfl, rfl, rfl, rfl⟩
  | succ k ih =>
    obtain ⟨u, hstep, hagenda, hu1, hu2, hseq, htrace⟩ := step_tick_cons h
    obtain ⟨t, hrun, ht1, ht2, hseq', htrace'⟩ := ih hagenda
    refine ⟨t, (runFor_succ_of_next hstep).trans hrun, ?_, ?_, hseq'.trans hseq, htrace'.trans htrace⟩
    · rw [ht1, hu1, toNat_countDown]; omega
    · rw [ht2, hu2, toNat_countDown]; omega

/-! ### The counters over one step -/

theorem step_tmr1 (h : step s = .next t) :
    t.tmr1 = s.tmr1 ∨ s.nextEvent = .tick ∧ t.tmr1 = countDown s.tmr1 ∨ s.nextEvent = .reset ∧ t.tmr1 = 0#16 ∨
      s.nextEvent = .foreground ∧
        (s.standsAt .tokenArm ∧ t.tmr1 = Config.tToken ∨ s.standsAt .armNegotiation ∧ t.tmr1 = Config.tInit) := by
  cases step_cases h
  case arm1 v he hb hm h =>
    refine .inr (.inr (.inr ⟨he, ?_⟩))
    rcases hm with ⟨hm, rfl⟩ | ⟨hm, rfl⟩
    · exact .inl ⟨⟨hb, hm⟩, h.tmr1⟩
    · exact .inr ⟨⟨hb, hm⟩, h.tmr1⟩
  case tick he h => cases h; exact .inr (.inl ⟨he, by simp⟩)
  case reset he h => subst h; exact .inr (.inr (.inl ⟨he, rfl⟩))
  case lines _ _ _ h | hostWrite _ _ _ _ _ _ h => subst h; exact .inl (by simp)
  all_goals
    rename ControlOnly _ _ => h
    exact .inl (by simpa using h.tmr1)

theorem step_tmr2 (h : step s = .next t) :
    t.tmr2 = s.tmr2 ∨ s.nextEvent = .tick ∧ t.tmr2 = countDown s.tmr2 ∨ s.nextEvent = .reset ∧ t.tmr2 = 0#16 ∨
      s.nextEvent = .foreground ∧ (∃ c, s.standsAt (.readyArm c)) ∧ t.tmr2 = Config.tReady := by
  cases step_cases h
  case arm2 he hb hm h =>
    obtain ⟨c, hm⟩ := hm
    exact .inr (.inr (.inr ⟨he, ⟨c, hb, hm⟩, h.tmr2⟩))
  case tick he h => cases h; exact .inr (.inl ⟨he, by simp⟩)
  case reset he h => subst h; exact .inr (.inr (.inl ⟨he, rfl⟩))
  case lines _ _ _ h | hostWrite _ _ _ _ _ _ h => subst h; exact .inl (by simp)
  all_goals
    rename ControlOnly _ _ => h
    exact .inl (by simpa using h.tmr2)

/-- Settles O35: the run by induction on the ticks, and for each counter the ways a step can leave it. -/
theorem countersSaturate : Obligations.CountersSaturate := by
  refine ⟨fun s k rest => runFor_ticks k, fun s t h hne => ?_, fun s t h hne => ?_⟩
  · rcases (step_tmr1 h).resolve_left hne with ⟨he, ht⟩ | hother
    · exact .inl ⟨he, ht ▸ toNat_countDown_succ (ht ▸ hne)⟩
    · exact .inr hother
  · rcases (step_tmr2 h).resolve_left hne with ⟨he, ht⟩ | hother
    · exact .inl ⟨he, ht ▸ toNat_countDown_succ (ht ▸ hne)⟩
    · exact .inr hother

end Sys2Proof.Machine
end

section
/-! PROOFS. O5, O6, O7, O8: the gates of the host operations in their order (R218), and the refused requests. -/

namespace Sys2Proof.Machine

variable {s : State} {pdrv count : Byte}

/-! ### The gates -/

/-- No host operation is accepted while another one runs (R61, R228). -/
theorem whenIdle_of_busy (hb : s.seq.busy = true) (accepted : Result) :
    s.whenIdle accepted = .refused .requestWhileBusy :=
  if_pos hb

theorem badParameters_iff : badParameters pdrv count = true ↔ pdrv ≠ 0#8 ∨ count = 0#8 := by
  simp [badParameters]

theorem badParameters_of_ne_zero (hc : count ≠ 0#8) : ¬badParameters 0#8 count = true :=
  fun h => (badParameters_iff.mp h).elim (absurd rfl) hc

/-- The gates that `READ` and `WRITE` share, in their order (R170, R171). -/
def State.transferGate (pdrv count : Byte) (s : State) (body : Result) : Result :=
  s.whenIdle
    (if badParameters pdrv count then .next (s.refuse .paramError)
     else if s.stat.notInitialized then .next (s.refuse .notReady)
     else body)

section Idle

variable (hidle : s.seq.busy = false) (body : Result)

include hidle

theorem transferGate_paramError (h : pdrv ≠ 0#8 ∨ count = 0#8) :
    s.transferGate pdrv count body = .next (s.refuse .paramError) := by
  rw [State.transferGate, whenIdle_of_idle hidle, if_pos (badParameters_iff.mpr h)]

theorem transferGate_notReady (hn : s.stat.notInitialized = true) (hc : count ≠ 0#8) :
    s.transferGate 0#8 count body = .next (s.refuse .notReady) := by
  rw [State.transferGate, whenIdle_of_idle hidle, if_neg (badParameters_of_ne_zero hc), if_pos hn]

theorem ioctlGate_paramError (hp : pdrv ≠ 0#8) : s.ioctlGate pdrv body = .next (s.refuse .paramError) := by
  rw [State.ioctlGate, whenIdle_of_idle hidle, if_pos hp]

theorem ioctlGate_notReady (hn : s.stat.notInitialized = true) :
    s.ioctlGate 0#8 body = .next (s.refuse .notReady) := by
  rw [State.ioctlGate, whenIdle_of_idle hidle, if_neg (not_not_intro rfl), if_pos hn]

end Idle

/-- A Ready drive passes the gates that `READ` and `WRITE` share. -/
theorem transferGate_of_ready (hs : s.driveReady) (hc : count ≠ 0#8) (body : Result) :
    s.transferGate 0#8 count body = body := by
  obtain ⟨hidle, hready⟩ := hs
  rw [State.transferGate, whenIdle_of_idle hidle, if_neg (badParameters_of_ne_zero hc),
    if_neg (Bool.eq_false_iff.mp hready)]

/-! ### The operations behind the gates -/

/-- `READ` past the shared gates (R170). -/
theorem exec_read_eq (sector : Sector) :
    exec (.read pdrv sector count) s =
      s.transferGate pdrv count
        (if countOutside count then .refused .countOutOfContract
         else .next ((s.startTransfer (.read pdrv sector count s.requestBuffer) sector count).call .main false
           (if count = 1#8 then Config.idxReadSingle else Config.idxReadMultiple) (cardAddress s.ct sector))) := rfl

/-- `WRITE` past the shared gates: its own gate stands before the test of the count (R171, R214). -/
theorem exec_write_eq (sector : Sector) :
    exec (.write pdrv sector count) s =
      s.transferGate pdrv count
        (if s.stat.writeProtected then .next (s.refuse .writeProtected)
         else if countOutside count then .refused .countOutOfContract
         else .next ((s.startTransfer (.write pdrv sector count s.requestBuffer) sector count).startWrite sector
           count)) := rfl

/-- Both transfers stand behind the shared gates. -/
theorem exec_transfer_gated (sector : Sector) :
    ∀ i ∈ [Instr.read pdrv sector count, .write pdrv sector count],
      ∃ body, exec i s = s.transferGate pdrv count body :=
  List.forall_mem_cons.mpr ⟨⟨_, exec_read_eq sector⟩, List.forall_mem_singleton.mpr ⟨_, exec_write_eq sector⟩⟩

/-- The control codes, with `code` for the unrecognized row (R91). -/
def controlCodes (pdrv code : Byte) : List Instr :=
  [.ioctlSync pdrv, .ioctlGetSectorCount pdrv, .ioctlGetBlockSize pdrv, .ioctlGetType pdrv, .ioctlGetCsd pdrv,
    .ioctlGetCid pdrv, .ioctlGetOcr pdrv, .ioctlGetSdstat pdrv, .ioctlUnrecognized pdrv code]

/-- Every control code stands behind the gates of R185. -/
theorem exec_control_gated {code : Byte} {i : Instr} (hi : i ∈ controlCodes pdrv code) :
    ∃ body, exec i s = s.ioctlGate pdrv body := by
  unfold controlCodes at hi
  fin_cases hi <;> exact ⟨_, rfl⟩

/-- Every host operation is accepted only by an Idle sequencer (R61). -/
theorem exec_request_whenIdle {sector : Sector} {code : Byte} {i : Instr}
    (hi : i ∈ .status pdrv :: .initializeDrive pdrv :: .read pdrv sector count :: .write pdrv sector count ::
      controlCodes pdrv code) : ∃ accepted, exec i s = s.whenIdle accepted := by
  unfold controlCodes at hi
  fin_cases hi <;> exact ⟨_, rfl⟩

/-- Settles O5: the first gate after the sequencer's refuses, before `STAT` is read. -/
theorem paramErrorGates : Obligations.ParamErrorGates := by
  refine fun s hidle => ⟨fun pdrv sector count h i hi => ?transfer, fun pdrv code hp i hi => ?control⟩
  case transfer =>
    obtain ⟨body, hexec⟩ := exec_transfer_gated sector i hi
    exact hexec.trans (transferGate_paramError hidle body h)
  case control =>
    obtain ⟨body, hexec⟩ := exec_control_gated hi
    exact hexec.trans (ioctlGate_paramError hidle body hp)

/-- Settles O6: the gate of `NotInitialized` refuses, before the rest of each operation. -/
theorem notReadyGates : Obligations.NotReadyGates := by
  intro s hidle hn sector count code hc i hi
  obtain hi | hi : i ∈ [Instr.read 0#8 sector count, .write 0#8 sector count] ∨ i ∈ controlCodes 0#8 code :=
    List.mem_append.mp hi
  · obtain ⟨body, hexec⟩ := exec_transfer_gated sector i hi
    exact hexec.trans (transferGate_notReady hidle body hn hc)
  · obtain ⟨body, hexec⟩ := exec_control_gated hi
    exact hexec.trans (ioctlGate_notReady hidle body hn)

/-- Settles O7: past the shared gates, `WRITE`'s own gate refuses. -/
theorem writeProtectedGate : Obligations.WriteProtectedGate := by
  intro s sector count hs hw hc
  rw [exec_write_eq, transferGate_of_ready hs hc, if_pos hw]
  rfl

/-- Settles O8: the sequencer's gate refuses every request, and past the other gates the test of the count does. -/
theorem requestsRefused : Obligations.RequestsRefused := by
  refine ⟨fun s hb pdrv sector count code i hi => ?busy, fun s sector count hs hcount => ?count⟩
  case busy =>
    obtain ⟨accepted, hexec⟩ := exec_request_whenIdle hi
    rw [hexec, whenIdle_of_busy hb]
  case count =>
    have hc : count ≠ 0#8 := by
      rintro rfl
      exact absurd hcount (by decide)
    have outside : countOutside count = true := decide_eq_true hcount
    refine ⟨?_, fun hw => ?_⟩
    · rw [exec_read_eq, transferGate_of_ready hs hc, if_pos outside]
    · rw [exec_write_eq, transferGate_of_ready hs hc, if_neg (Bool.eq_false_iff.mp hw), if_pos outside]

end Sys2Proof.Machine
end

section
/-! PROOFS. O2: the reset event. -/

namespace Sys2Proof.Machine

/-- Settles O2: the reset is made in the state with its move taken, which has the same buffers, trace and inputs. -/
theorem resetEvent : Obligations.ResetEvent := fun s he =>
  ⟨s.popEvent.applyReset, step_reset he, rfl, rfl, rfl, rfl, rfl, rfl, rfl, rfl, rfl, s.popEvent_buffers,
    s.popEvent_trace, s.popEvent_cdPresent, s.popEvent_wpActive⟩

end Sys2Proof.Machine
end

section
/-! PROOFS. O49: `INITIALIZE` with a card that never answers, from its request to its result. -/

namespace Sys2Proof.Machine

variable {s : State} {k : Nat}

/-! ### The request and the power-up (R150) -/

/-- `INITIALIZE` of drive 0 is accepted, with handle `h` on the request port. -/
def State.initializeAccepted (h : Nat) (s : State) : State :=
  { s with
    requestBuffer := h, pwr := .on, trace := .power .on :: s.trace, result := none
    seq := { Seq.accepted (.initializeDrive 0#8) .clockSlow s.seq with phase := .reset } }

theorem step_requestInitialize (hidle : s.seq.busy = false) (h : Nat) (sector : Sector) (count code : Byte)
    (bytes : List Byte) :
    step ((s.letAnswer bytes).letRequest h (requestOf 1#3 0#8 sector count code) k) =
      .next ((s.initializeAccepted h).scripted k bytes) := by
  have decoded : decode (.request (requestOf 1#3 0#8 sector count code)) = .ok (.initializeDrive 0#8) :=
    decode_requestOf _ _ _ _ _
  rw [step_request (buffer := h) rfl, takeUp, decoded]
  exact (initializeBegins (({ s with requestBuffer := h } : State).scripted k bytes) hidle).1

theorem performs_clockSlow (hm : s.seq.micro = .clockSlow) :
    s.Performs ((s.setClk .slow).goto (.powerUp Config.nPowerupDummy)) := by
  simp only [State.Performs, State.wireSignal, State.primitive, hm, ite_self, and_self]

theorem performs_powerUp_of_lt {left : Nat} (hm : s.seq.micro = .powerUp left) (h : 1 < left) :
    s.Performs ((s.send Config.fill).goto (.powerUp (left - 1))) := by
  simp only [State.Performs, State.wireSignal, State.primitive, hm, ite_self, if_neg (Nat.not_le.mpr h), and_self]

/-- The last exchange of the power-up, and the call of `CMD0` (R151). -/
theorem performs_powerUp_last (hm : s.seq.micro = .powerUp 1) :
    s.Performs (({ s.send Config.fill with seq := { s.seq with ty := Config.ctNone } } : State).call .main false
      Config.idxGoIdle 0#32) := by
  simp only [State.Performs, State.wireSignal, State.primitive, hm, ite_self, true_and]
  exact if_pos (Nat.le_refl 1)

/-- The exchanges of the power-up are made, and `CMD0` is called (R150, R151). -/
def State.poweredUp (bytes : List Byte) (s : State) : State :=
  ({ s.heard bytes with seq := { s.seq with ty := Config.ctNone } } : State).call .main false Config.idxGoIdle 0#32

theorem poweredUp_goto (m : Micro) (bytes : List Byte) : (s.goto m).poweredUp bytes = s.poweredUp bytes := rfl

theorem poweredUp_heard (first next : List Byte) : (s.heard first).poweredUp next = s.poweredUp (first ++ next) := by
  rw [State.poweredUp, State.poweredUp, heard_heard]
  rfl

theorem runFor_powerUp (rest : List Byte) {bytes : List Byte} (hne : bytes ≠ [])
    (hs : s.standsAt (.powerUp bytes.length)) :
    runFor (bytes.length + k) (s.scripted (bytes.length + k) (bytes ++ rest)) =
      runFor k ((s.poweredUp bytes).scripted k rest) := by
  induction bytes generalizing s with
  | nil => exact absurd rfl hne
  | cons b bytes ih =>
    obtain ⟨hb, hm⟩ := hs
    cases bytes with
    | nil =>
      have last := step_scripted_of_performs hb (performs_powerUp_last (s := s.scripted k (b :: rest)) hm)
      rw [List.length_singleton, Nat.add_comm, List.singleton_append, runFor_succ_of_next last]
      rfl
    | cons c bytes =>
      have more := step_scripted_of_performs hb (performs_powerUp_of_lt
        (s := s.scripted ((c :: bytes).length + k) (b :: (c :: bytes ++ rest))) hm (by simp))
      have later := ih nofun (s := (s.heard [b]).goto (.powerUp (c :: bytes).length)) ⟨hb, rfl⟩
      rw [poweredUp_goto, poweredUp_heard] at later
      rw [List.length_cons, Nat.succ_add]
      exact (runFor_succ_of_next more).trans later

/-! ### The silent response poll (R113, R151) -/

@[simp] theorem scripted_seq (bytes : List Byte) : (s.scripted k bytes).seq = s.seq := rfl

/-- Ten bytes `0xFF` answered the poll of `CMD0`: `INITIALIZE` failed, its commit to be made. -/
def State.unanswered (s : State) : State :=
  { s.polled (List.replicate 10 0xFF#8) with
    resp := 0xFF#8, seq := { s.seq with phase := .failed, ty := 0x00#8, micro := .commit } }

theorem commandReturn_reset_failed {p r : Byte} (hop : s.seq.op = .initializeDrive p) (hph : s.seq.phase = .reset)
    (hr : r ≠ 1#8) :
    s.commandReturn false r =
      { s with resp := r, seq := { s.seq with phase := .failed, ty := 0x00#8, micro := .commit } } := by
  rw [commandReturn_target, operationReturn_initialize (s := { s with resp := r }) hop,
    initReturn_reset (s := { s with resp := r }) hph, if_neg hr, failInit_eq (s := { s with resp := r }) hph rfl]

theorem runFor_silentPoll {p : Byte} (hs : s.standsAt (.response false)) (hn : s.n = 10#8)
    (hop : s.seq.op = .initializeDrive p) (hph : s.seq.phase = .reset) (rest : List Byte) :
    runFor (10 + k) (s.scripted (10 + k) (List.replicate 10 0xFF#8 ++ rest)) =
      runFor k (s.unanswered.scripted k rest) := by
  have poll := runFor_poll (s := s.scripted k rest) (missed := List.replicate 9 0xFF#8) (last := 0xFF#8) hs hn
    (fun b hb => by rw [List.eq_of_mem_replicate hb]; rfl) (.inr List.length_replicate)
  have failed := commandReturn_reset_failed (s := (s.scripted k rest).polled (List.replicate 9 0xFF#8 ++ [0xFF#8]))
    (by simpa using hop) (by simpa using hph) (by decide : 0xFF#8 ≠ 1#8)
  rw [failed] at poll
  exact runFor_append rest poll

/-! ### The whole run -/

/-- `INITIALIZE` of drive 0 with handle `h` failed on a silent `CMD0`: 29 exchanges so far, its commit to be made. -/
def State.resetUnanswered (h : Nat) (s : State) : State :=
  { s with
    requestBuffer := h, result := none, pwr := .on, clk := .slow, cs := .asserted, tmr2 := 500#16
    app := false, idx := 0#6, arg := 0#32, n := 0#8, resp := 0xFF#8, exchanges := s.exchanges + 29
    trace :=
      List.replicate 10 (.exchange 0xFF#8 0xFF#8) ++
        (exchangesOf [0x40#8, 0x00#8, 0x00#8, 0x00#8, 0x00#8, 0x95#8] (List.replicate 6 0xFF#8) ++
          .exchange 0xFF#8 0xFF#8 :: .exchange 0xFF#8 0xFF#8 :: .chipSelect .asserted ::
            .exchange 0xFF#8 0xFF#8 :: .chipSelect .deasserted ::
            (List.replicate 10 (.exchange 0xFF#8 0xFF#8) ++ .clock .slow :: .power .on :: s.trace))
    seq := { Seq.accepted (.initializeDrive 0#8) .commit s.seq with phase := .failed, ty := 0x00#8 } }

theorem unanswered_eq (h : Nat) :
    ((((s.initializeAccepted h).setClk .slow).poweredUp (List.replicate 10 0xFF#8)).commandSent 0xFF#8 0xFF#8
      (List.replicate 6 0xFF#8)).unanswered = s.resetUnanswered h := by
  have frame : frameBytesFrom (wireFrame false 0#6 0#32) 0 = [0x40#8, 0x00#8, 0x00#8, 0x00#8, 0x00#8, 0x95#8] := by
    decide
  simp [State.unanswered, State.polled, State.heard, State.commandSent, State.poweredUp, State.initializeAccepted,
    State.resetUnanswered, State.call, Seq.accepted, frame]

/-- Settles O49: the request, the power-up, `CMD0`, its silent poll and the exit, one run after another. -/
theorem initializeSilentCard : Obligations.InitializeSilentCard := by
  intro s h hidle
  let silent := List.replicate 10 (0xFF#8 : Byte)
  let clocked := (s.initializeAccepted h).setClk .slow
  let sent := (clocked.poweredUp silent).commandSent 0xFF#8 0xFF#8 (List.replicate 6 0xFF#8)
  let poll := silent ++ [0xFF#8]
  let command := List.replicate 9 0xFF#8 ++ poll
  have script : List.replicate 30 0xFF#8 = silent ++ command := rfl
  have request := step_requestInitialize (k := 39) hidle h 0#32 0#8 0#8 (silent ++ command)
  have clock := step_scripted_of_performs (s := s.initializeAccepted h) (k := 38) (bytes := silent ++ command) rfl
    (performs_clockSlow rfl)
  have powerUp := runFor_powerUp (k := 28) (s := clocked.goto (.powerUp 10)) (bytes := silent) command nofun
    ⟨rfl, rfl⟩
  have reset := runFor_command (k := 16) (s := clocked.poweredUp silent) ⟨rfl, rfl⟩ rfl (by decide : 0#6 ≠ 12#6)
    ⟨_, decodeEncode .cmd0 rfl⟩ 0xFF#8 0xFF#8 0xFF#8 0xFF#8 0xFF#8 0xFF#8 0xFF#8 0xFF#8 poll
  have unanswered := runFor_silentPoll (k := 6) (s := sent) ⟨rfl, rfl⟩ rfl rfl rfl [0xFF#8]
  have exit := (initializeExit (s.resetUnanswered h) 0#8 0xFF#8 ⟨rfl, rfl⟩ rfl).2 rfl
  rw [unanswered_eq] at unanswered
  have run := (runFor_succ_of_next request).trans <| (runFor_succ_of_next clock).trans <|
    powerUp.trans <| reset.trans <| unanswered.trans exit
  rw [script]
  exact ⟨_, run, rfl, rfl, rfl, rfl, rfl, rfl, rfl, rfl, rfl, rfl, rfl⟩

end Sys2Proof.Machine
end
